-- ==== Sys2Proof/Word.lean ====
section
/-! DEFINITION. The widths of the block's values (00_scope.md R10), the named operand values of the two selector
forms (30_encoding.md R81), and the three formats in which bits reach the block (R71, R74, R78). -/

namespace Sys2Proof

/-- A `u8`: a byte of a frame, the running checksum, a motor state code. -/
abbrev Byte := BitVec 8

/-- A `u16`: a field of a frame, an entry of the history. -/
abbrev Half := BitVec 16

/-- A `u32`: a command word, the data of a response, a 4-byte frame as a word. -/
abbrev Word := BitVec 32

/-- An 8-byte frame as a word (30_encoding.md R76). -/
abbrev DWord := BitVec 64

/-- The legal selectors of `SMP.RD`, 0 to 4 in this order (41_codec.md R136). -/
inductive SampleSel where
  | duty | ref | avg | mstate | motorClass
  deriving DecidableEq, Repr

/-- The legal selectors of `MET.RD`, 0 to 4 in this order (42_history.md R167). -/
inductive MetricSel where
  | pctm | pctr | devn | sum | hcnt
  deriving DecidableEq, Repr

/-- Bits in one of the three formats of the opcode table: a command word (R78), a 4-byte and an 8-byte wire frame
packed as R76 says. Which format bits have is never read off their content (R70), so the format is part of the input. -/
inductive Encoding where
  | cmd32 (w : Word)
  | wire4 (w : Word)
  | wire8 (w : DWord)
  deriving DecidableEq, Repr

/-- What the outside world does to the block next: it presents an encoding, or it drives the hardware reset input
(70_reset_and_hazards.md R220). -/
inductive Input where
  | present (e : Encoding)
  | hardReset
  deriving DecidableEq, Repr

end Sys2Proof
end

