-- ==== Sys2Proof/Syntax.lean ====
section
/-! DEFINITION. The instructions: one constructor for each row of spec/opcode_table.json, the sixteen operations of
30_encoding.md R84 and the three wire frames of R72 to R74. -/

namespace Sys2Proof

/-- One constructor per row of the opcode table. Operands of the operations stand as R81 reads them from `arg`; a
wire frame stands with all its fields, its checksum byte among them, as it is on the wire. -/
inductive Instr where
  /-- `SYS.RST` (43_system.md R181) -/
  | sysRst
  /-- `SYS.STAT` (43_system.md R182) -/
  | sysStat
  /-- `CK.CLR` (40_checksum.md R105) -/
  | ckClr
  /-- `CK.ABS b` (40_checksum.md R106) -/
  | ckAbs (b : Byte)
  /-- `CK.RD` (40_checksum.md R107) -/
  | ckRd
  /-- `ENC.SPD rpm` (41_codec.md R123) -/
  | encSpd (rpm : Half)
  /-- `ENC.TRQ` (41_codec.md R124) -/
  | encTrq
  /-- `RX.CLR` (41_codec.md R126) -/
  | rxClr
  /-- `RX.PUSH b` (41_codec.md R127, R128) -/
  | rxPush (b : Byte)
  /-- `DEC` (41_codec.md R132) -/
  | dec
  /-- `SMP.RD f` (41_codec.md R136) -/
  | smpRd (f : SampleSel)
  /-- `SMP.ACC` (42_history.md R160) -/
  | smpAcc
  /-- `HS.PUSH v` (42_history.md R161) -/
  | hsPush (v : Half)
  /-- `HS.MET ref` (42_history.md R162) -/
  | hsMet (ref : Half)
  /-- `HS.RD i` (42_history.md R166) -/
  | hsRd (i : Half)
  /-- `MET.RD f` (42_history.md R167) -/
  | metRd (f : MetricSel)
  /-- the SetSpeed frame on the wire (30_encoding.md R72) -/
  | setspeed (rpm : Half) (crc : Byte)
  /-- the TelemetryRequest frame on the wire (30_encoding.md R73) -/
  | telemreq
  /-- the telemetry frame on the wire (30_encoding.md R74) -/
  | telemetry (duty ref avg : Half) (mstate crc : Byte)
  deriving DecidableEq, Repr

end Sys2Proof
end

