-- ==== Sys2Proof/Machine/Operands.lean ====
section
/-! DEFINITION. The fields of a command word (30_encoding.md R78) and the five operand forms (R81), with the check
each form makes (R88 (c) to (e)), and the selector numbers. -/

namespace Sys2Proof.Machine

/-- `op`, bits 31:24 of a command word. -/
def opField (w : Word) : Byte := w.extractLsb' 24 8

/-- `rsv`, bits 23:16 of a command word. -/
def rsvField (w : Word) : Byte := w.extractLsb' 16 8

/-- `arg`, bits 15:0 of a command word. -/
def argField (w : Word) : Half := w.extractLsb' 0 16

/-- Form `none`: `arg` must be 0. -/
def formNone (arg : Half) (i : Instr) : Option Instr :=
  if arg = 0#16 then some i else none

/-- Form `byte`: the operand is `arg[7:0]`, and `arg[15:8]` must be 0. -/
def formByte (arg : Half) (k : Byte → Instr) : Option Instr :=
  if arg.extractLsb' 8 8 = 0#8 then some (k (arg.extractLsb' 0 8)) else none

/-- Forms `half` and `index`: the operand is `arg[15:0]`, every value legal. -/
def formHalf (arg : Half) (k : Half → Instr) : Instr := k arg

/-- Selector of `SMP.RD` from its number (41_codec.md R136). -/
def sampleSelOf (arg : Half) : Option SampleSel :=
  if arg = 0#16 then some .duty
  else if arg = 1#16 then some .ref
  else if arg = 2#16 then some .avg
  else if arg = 3#16 then some .mstate
  else if arg = 4#16 then some .motorClass
  else none

/-- Number of a selector of `SMP.RD`. -/
def sampleSelNum : SampleSel → Half
  | .duty => 0#16
  | .ref => 1#16
  | .avg => 2#16
  | .mstate => 3#16
  | .motorClass => 4#16

/-- Selector of `MET.RD` from its number (42_history.md R167). -/
def metricSelOf (arg : Half) : Option MetricSel :=
  if arg = 0#16 then some .pctm
  else if arg = 1#16 then some .pctr
  else if arg = 2#16 then some .devn
  else if arg = 3#16 then some .sum
  else if arg = 4#16 then some .hcnt
  else none

/-- Number of a selector of `MET.RD`. -/
def metricSelNum : MetricSel → Half
  | .pctm => 0#16
  | .pctr => 1#16
  | .devn => 2#16
  | .sum => 3#16
  | .hcnt => 4#16

end Sys2Proof.Machine
end

