-- ==== Sys2Proof/Config.lean ====
section
/-! DEFINITION. What is fixed for the life of the block: the constants of 00_scope.md R7, the decided scale of R8, and
the one parameter the spec leaves open, `MST_TABLE` (R8, 92_eei_decisions.md D9). -/

namespace Sys2Proof

/-- The twelve classes of a motor state code (41_codec.md R140), in the order of R141. -/
inductive MotorClass where
  | idle | alignment | start | run | stop | faultNow
  | faultOver | iclWait | chargeBootCap | offsetCalib | switchOver | waitStopMotor
  deriving DecidableEq, Repr

namespace Config

/-- `POLY`, the feedback constant of the checksum. -/
abbrev poly : Byte := 0x07#8

/-- `INIT`, the initial value of the checksum. The final XOR constant `XOROUT` of R7 is 0: there is none. -/
abbrev init : Byte := 0x00#8

/-- `CMD_SETSPEED`, the first byte of a SetSpeed frame. -/
abbrev kindSetSpeed : Byte := 0x01#8

/-- `CMD_TELEMREQ`, the first byte of a TelemetryRequest frame. -/
abbrev kindTelemReq : Byte := 0x02#8

/-- `CMDLEN`, the bytes of a command frame. -/
abbrev cmdLen : Nat := 4

/-- `TLMLEN`, the bytes of a telemetry frame. -/
abbrev tlmLen : Nat := 8

/-- `HCAP`, the capacity of the Sample History. -/
abbrev hcap : Nat := 50

/-- `MMIN`, the least history length at which a metric is computed. -/
abbrev mmin : Nat := 10

/-- `PCT_SCALE`: the percentages are held in units of 0.01 percent. -/
abbrev pctScale : Nat := 100

/-- DESIGN CHOICE (log 8). The contents of `MST_TABLE` before its one known constraint: a constant without a value, so
that nothing can be proved of any code's class. `mstTable` (Machine/Frames.lean) keeps code 99 out of it. -/
opaque mstRaw : Byte → Option MotorClass

end Config
end Sys2Proof
end

