-- ==== Sys2Proof/Machine/Crc.lean ====
section
/-! DEFINITION. The checksum as the three nested pure functions of 40_checksum.md: R101, R102, R103. -/

namespace Sys2Proof.Machine

/-- One bit iteration (R101): `mix` is taken from the unshifted values. -/
def crc8Bit (crc byte : Byte) : Byte × Byte :=
  let mix := (crc ^^^ byte).getLsbD 7
  let c1 := crc <<< 1
  let c2 := if mix then c1 ^^^ Config.poly else c1
  (c2, byte <<< 1)

/-- `n` bit iterations, each on the pair the one before it left. -/
def crc8Bits : Nat → Byte → Byte → Byte × Byte
  | 0, c, w => (c, w)
  | n + 1, c, w => crc8Bits n (crc8Bit c w).1 (crc8Bit c w).2

/-- One byte (R102): eight bit iterations; the working byte is discarded. -/
def crc8Byte (crc b : Byte) : Byte := (crc8Bits 8 crc b).1

/-- The fold of `crc8Byte` over a sequence, index 0 first, from a running value (R108). -/
def crc8From (crc : Byte) (bytes : List Byte) : Byte := bytes.foldl crc8Byte crc

/-- The checksum of a byte sequence (R103): from the initial value, with no final XOR. -/
def crc8 (bytes : List Byte) : Byte := crc8From Config.init bytes

end Sys2Proof.Machine
end

