-- ==== Sys2Proof/WellFormed.lean ====
section
/-! DEFINITION. Which instructions are well formed. The operands of the sixteen operations are legal by their types
(30_encoding.md R81); a wire frame is well formed when its checksum byte is the checksum of the bytes before it
(R75; the constraint of its row in the opcode table). -/

namespace Sys2Proof

open Machine in
/-- Well-formedness. Only the two frames that carry a checksum byte can be ill formed. -/
def Instr.wf : Instr → Bool
  | .sysRst => true
  | .sysStat => true
  | .ckClr => true
  | .ckAbs _ => true
  | .ckRd => true
  | .encSpd _ => true
  | .encTrq => true
  | .rxClr => true
  | .rxPush _ => true
  | .dec => true
  | .smpRd _ => true
  | .smpAcc => true
  | .hsPush _ => true
  | .hsMet _ => true
  | .hsRd _ => true
  | .metRd _ => true
  | .setspeed rpm crc => crc == crc8 [Config.kindSetSpeed, rpm.extractLsb' 0 8, rpm.extractLsb' 8 8]
  | .telemreq => true
  | .telemetry duty ref avg mstate crc =>
    crc == crc8 [duty.extractLsb' 0 8, duty.extractLsb' 8 8, ref.extractLsb' 0 8, ref.extractLsb' 8 8,
      avg.extractLsb' 0 8, avg.extractLsb' 8 8, mstate]

end Sys2Proof
end

