-- ==== Sys2Proof/Decode.lean ====
section
/-! DEFINITION. Bits to instructions and back: the command word decoder (30_encoding.md R78, R84, R88), the wire frame
decoders (R71 to R74, R76), the encoder, and the reading of a word of the opcode table. -/

namespace Sys2Proof

open Machine

/-- Why bits are no instruction, by name. The first five are the checks (a) to (e) of 30_encoding.md R88 on a command
word, in that order; the last is a 4-byte frame whose row is not in the table (R77). -/
inductive Reject where
  /-- (a): `op` is none of the sixteen codes -/
  | unknownOp
  /-- (b): `rsv` is not 0 -/
  | reservedBits
  /-- (c): the operation takes no operand and `arg` is not 0 -/
  | operandForNone
  /-- (d): the operand is a byte and `arg[15:8]` is not 0 -/
  | byteTooWide
  /-- (e): the operand is a selector and `arg` is above 4 -/
  | selectorRange
  /-- the first byte of a 4-byte frame is neither command byte, or a TelemetryRequest frame is not the constant one -/
  | unknownFrame
  deriving DecidableEq, Repr

/-- An operand form's answer, with the name of its check. -/
def orReject (r : Reject) : Option Instr → Except Reject Instr
  | some i => .ok i
  | none => .error r

/-- The sixteen operation codes (R84), each with what its operand form makes of `arg` (R81, R88 (c) to (e)). -/
def opTable : List (Byte × (Half → Except Reject Instr)) :=
  [(0x01#8, fun arg => orReject .operandForNone (formNone arg .sysRst)),
   (0x02#8, fun arg => orReject .operandForNone (formNone arg .sysStat)),
   (0x10#8, fun arg => orReject .operandForNone (formNone arg .ckClr)),
   (0x11#8, fun arg => orReject .byteTooWide (formByte arg .ckAbs)),
   (0x12#8, fun arg => orReject .operandForNone (formNone arg .ckRd)),
   (0x21#8, fun arg => .ok (formHalf arg .encSpd)),
   (0x22#8, fun arg => orReject .operandForNone (formNone arg .encTrq)),
   (0x30#8, fun arg => orReject .operandForNone (formNone arg .rxClr))] ++
  [(0x31#8, fun arg => orReject .byteTooWide (formByte arg .rxPush)),
   (0x32#8, fun arg => orReject .operandForNone (formNone arg .dec)),
   (0x33#8, fun arg => orReject .selectorRange ((sampleSelOf arg).map .smpRd)),
   (0x40#8, fun arg => orReject .operandForNone (formNone arg .smpAcc)),
   (0x41#8, fun arg => .ok (formHalf arg .hsPush)),
   (0x42#8, fun arg => .ok (formHalf arg .hsMet)),
   (0x43#8, fun arg => .ok (formHalf arg .hsRd)),
   (0x44#8, fun arg => orReject .selectorRange ((metricSelOf arg).map .metRd))]

/-- The operation codes alone. -/
def opCodes : List Byte := opTable.map Prod.fst

/-- The command word decoder: the checks of R88 in its order. -/
def decodeCommand (w : Word) : Except Reject Instr :=
  match opTable.lookup (opField w) with
  | none => .error .unknownOp
  | some form => if rsvField w ≠ 0#8 then .error .reservedBits else form (argField w)

/-- A 4-byte frame packed as `kind | data << 8 | crc << 24` (R71, R76), by the match and mask of its row in the
opcode table. The checksum of a SetSpeed frame is a field here; `Instr.wf` checks it (log 5). -/
def decodeWire4 (w : Word) : Except Reject Instr :=
  if w = 0xD6000002#32 then .ok .telemreq
  else if w.extractLsb' 0 8 = Config.kindSetSpeed then .ok (.setspeed (w.extractLsb' 8 16) (w.extractLsb' 24 8))
  else .error .unknownFrame

/-- An 8-byte frame packed as `duty | ref << 16 | avg << 32 | state << 48 | crc << 56` (R74, R76): every one has the
format; whether its checksum is right is for `DEC` to say. -/
def decodeWire8 (w : DWord) : Except Reject Instr :=
  .ok (.telemetry (w.extractLsb' 0 16) (w.extractLsb' 16 16) (w.extractLsb' 32 16)
    (w.extractLsb' 48 8) (w.extractLsb' 56 8))

/-- The decoder, total on every encoding. -/
def decode : Encoding → Except Reject Instr
  | .cmd32 w => decodeCommand w
  | .wire4 w => decodeWire4 w
  | .wire8 w => decodeWire8 w

/-- The command word `op << 24 | arg` (R78, R91). -/
def commandWord (op : Byte) (arg : Half) : Word := (op.setWidth 32 <<< 24) ||| arg.setWidth 32

/-- `WIRE4 = kind | data << 8 | crc << 24` (R76). -/
def wire4Word (kind : Byte) (data : Half) (crc : Byte) : Word :=
  kind.setWidth 32 ||| (data.setWidth 32 <<< 8) ||| (crc.setWidth 32 <<< 24)

/-- `WIRE8 = duty_cycle | reference_speed << 16 | average_speed << 32 | motor_state << 48 | crc << 56` (R76). -/
def wire8Word (duty ref avg : Half) (mstate crc : Byte) : DWord :=
  duty.setWidth 64 ||| (ref.setWidth 64 <<< 16) ||| (avg.setWidth 64 <<< 32) ||| (mstate.setWidth 64 <<< 48) |||
    (crc.setWidth 64 <<< 56)

/-- The encoder: the bits of an instruction, from R71, R74, R76, R78 and R84. -/
def encode : Instr → Encoding
  | .sysRst => .cmd32 (commandWord 0x01#8 0#16)
  | .sysStat => .cmd32 (commandWord 0x02#8 0#16)
  | .ckClr => .cmd32 (commandWord 0x10#8 0#16)
  | .ckAbs b => .cmd32 (commandWord 0x11#8 (b.setWidth 16))
  | .ckRd => .cmd32 (commandWord 0x12#8 0#16)
  | .encSpd rpm => .cmd32 (commandWord 0x21#8 rpm)
  | .encTrq => .cmd32 (commandWord 0x22#8 0#16)
  | .rxClr => .cmd32 (commandWord 0x30#8 0#16)
  | .rxPush b => .cmd32 (commandWord 0x31#8 (b.setWidth 16))
  | .dec => .cmd32 (commandWord 0x32#8 0#16)
  | .smpRd f => .cmd32 (commandWord 0x33#8 (sampleSelNum f))
  | .smpAcc => .cmd32 (commandWord 0x40#8 0#16)
  | .hsPush v => .cmd32 (commandWord 0x41#8 v)
  | .hsMet ref => .cmd32 (commandWord 0x42#8 ref)
  | .hsRd i => .cmd32 (commandWord 0x43#8 i)
  | .metRd f => .cmd32 (commandWord 0x44#8 (metricSelNum f))
  | .setspeed rpm crc => .wire4 (wire4Word Config.kindSetSpeed rpm crc)
  | .telemreq => .wire4 0xD6000002#32
  | .telemetry duty ref avg mstate crc => .wire8 (wire8Word duty ref avg mstate crc)

/-- DESIGN CHOICE (log 6). The format of a word of the opcode table, which gives the bits and not the format: 64 bits
are a telemetry frame; 32 bits are a command word where they decode as one, else a 4-byte frame where they are a well
formed one, or are one by match and mask and their top byte is no operation code, else an (illegal) command word. -/
def tableEncoding (nbits w : Nat) : Encoding :=
  if 32 < nbits then .wire8 (BitVec.ofNat 64 w)
  else
    match decodeCommand (BitVec.ofNat 32 w), decodeWire4 (BitVec.ofNat 32 w) with
    | .error _, .ok i =>
      if i.wf || !(opCodes.contains (opField (BitVec.ofNat 32 w))) then .wire4 (BitVec.ofNat 32 w)
      else .cmd32 (BitVec.ofNat 32 w)
    | _, _ => .cmd32 (BitVec.ofNat 32 w)

/-- The instruction the decoder reads from a word of the opcode table. -/
def decodeTableWord (nbits w : Nat) : Option Instr :=
  match decode (tableEncoding nbits w) with
  | .ok i => some i
  | .error _ => none

end Sys2Proof
end

