-- ==== Sys2Proof/Machine/State.lean ====
section
/-! DEFINITION. The state of the block: every register of 10_state.md R20 and R21 as plain data, the responses of
30_encoding.md R79 and R86, the reset state of 70_reset_and_hazards.md R221, and the ways a step can stop. -/

namespace Sys2Proof.Machine

/-- `OUTCOME` (10_state.md R28): the result of the most recent `DEC`. -/
inductive DecodeOutcome where
  | none | incomplete | ckMismatch | valid
  deriving DecidableEq, Repr

/-- The status of a response (30_encoding.md R86); no other code is ever produced. -/
inductive Status where
  | ok | incomplete | ckMismatch | noSample | noMetric | range | rxFull | illegal
  deriving DecidableEq, Repr

/-- One response (30_encoding.md R79): a status and a 32-bit data word. -/
structure Response where
  status : Status
  data : Word
  deriving DecidableEq, Repr

/-- The reasons a step can fault. There is none, so the type is empty: the block never traps, hangs or gives an
undefined value (60_exceptions.md R190), and its failures are response statuses. -/
inductive Fault where
  deriving DecidableEq, Repr

/-- The reasons a step can be refused. -/
inductive Refusal where
  /-- An instruction that has no meaning yet; raised by an arm of `exec`. Safe. Raised by none now. -/
  | notModelled (mnemonic : String)
  /-- Raised by the step when the input is a 4-byte frame that is neither a SetSpeed nor a TelemetryRequest frame: the
  block never produces one (30_encoding.md R77) and the spec says nothing of what follows from one
  (93_implementation_defined.md U6, "refuse"). No command word raises it. Safe (log 7). -/
  | unknownFrame
  deriving DecidableEq, Repr

/-- The state. The first seventeen fields are the block's registers, each under its name in 10_state.md R20; the last
three are the model's own record of what enters and leaves the block (log 2). -/
structure State where
  /-- `CRC`: the running checksum (R24) -/
  crc : Byte
  /-- `RXB[0..7]`: the bytes received, in arrival order (R26) -/
  rxb : Vector Byte 8
  /-- `RXN`: how many bytes were received; 9 is "nine or more" (R27) -/
  rxn : BitVec 4
  /-- `OUTCOME`: the result of the most recent `DEC` (R28) -/
  outcome : DecodeOutcome
  /-- `SNEW`: the sample registers hold a sample not yet appended (R31) -/
  snew : Bool
  /-- `DUTY` (R29) -/
  duty : Half
  /-- `REF` (R29) -/
  ref : Half
  /-- `AVG` (R29) -/
  avg : Half
  /-- `MSTATE` (R29) -/
  mstate : Byte
  /-- `H`: the Sample History, oldest first (R33) -/
  h : List Half
  /-- `HCNT`: the number of entries of the history (R35) -/
  hcnt : BitVec 6
  /-- `SUM`: the sum of the entries of the history (R36) -/
  sum : BitVec 22
  /-- `MVALID`: the metric registers describe the present history (R37) -/
  mvalid : Bool
  /-- `DEVN`: the greatest deviation times the history length (R38) -/
  devn : BitVec 22
  /-- `PCTM`: percentage of the mean, in units of 0.01 percent (R39) -/
  pctm : Word
  /-- `PCTR`: percentage of the reference speed, in units of 0.01 percent (R39) -/
  pctr : Word
  /-- `EILL`: an illegal command word was presented (R42) -/
  eill : Bool
  /-- The model's own: the inputs not yet taken, oldest first (log 1) -/
  port : List Input
  /-- The model's own: the responses given so far, oldest first (log 2) -/
  out : List Response
  /-- The model's own: the bytes put on the link so far, oldest first (log 4) -/
  sent : List Byte
  deriving DecidableEq, Repr

/-- The state right after reset (70_reset_and_hazards.md R221), with nothing presented and nothing answered yet. -/
def State.reset : State where
  crc := 0x00#8
  rxb := Vector.replicate 8 0x00#8
  rxn := 0#4
  outcome := .none
  snew := false
  duty := 0#16
  ref := 0#16
  avg := 0#16
  mstate := 0x00#8
  h := []
  hcnt := 0#6
  sum := 0#22
  mvalid := false
  devn := 0#22
  pctm := 0#32
  pctr := 0#32
  eill := false
  port := []
  out := []
  sent := []

end Sys2Proof.Machine
end

