-- ==== Sys2Proof/Machine/Flags.lean ====
section
/-! DEFINITION. The status flags `OUTCOME`, `SNEW`, `MVALID`, `EILL` (10_state.md R41): their codes, the operations
that write them, the status word that shows them (R43), and the status codes of responses (30_encoding.md R86). -/

namespace Sys2Proof.Machine

/-- The value of `OUTCOME` as a 2-bit register (10_state.md R28). -/
def outcomeCode : DecodeOutcome → BitVec 2
  | .none => 0#2
  | .incomplete => 1#2
  | .ckMismatch => 2#2
  | .valid => 3#2

/-- The code of a status (30_encoding.md R86). -/
def statusCode : Status → Byte
  | .ok => 0x00#8
  | .incomplete => 0x01#8
  | .ckMismatch => 0x02#8
  | .noSample => 0x03#8
  | .noMetric => 0x04#8
  | .range => 0x05#8
  | .rxFull => 0x06#8
  | .illegal => 0xFF#8

/-- A response as one 40-bit word, status on top (R79). -/
def responseWord (r : Response) : BitVec 40 := ((statusCode r.status).setWidth 40 <<< 32) ||| r.data.setWidth 40

/-- A 1-bit register in a 32-bit word. -/
def flagWord (b : Bool) : Word := (BitVec.ofBool b).setWidth 32

/-- The status word `STATUS` (10_state.md R43, 43_system.md R182): a view of other registers. -/
def statusWord (s : State) : Word :=
  (outcomeCode s.outcome).setWidth 32 ||| (flagWord s.snew <<< 2) ||| (flagWord s.mvalid <<< 3) |||
    (s.rxn.setWidth 32 <<< 4) ||| (s.hcnt.setWidth 32 <<< 8) ||| (flagWord s.eill <<< 16)

/-- `DEC` writes `OUTCOME` and, with it, `SNEW`: 1 on `VALID` and 0 on any other outcome (10_state.md R28, R31). -/
def setOutcome (o : DecodeOutcome) (s : State) : State := { s with outcome := o, snew := o == .valid }

/-- `SMP.ACC` clears `SNEW` when it appends (R31). -/
def clearSnew (s : State) : State := { s with snew := false }

/-- The metric registers stop describing the history (R37). -/
def clearMvalid (s : State) : State := { s with mvalid := false }

/-- `EILL` is set by `ILLEGAL` and by nothing else (R42, 60_exceptions.md R196). -/
def setEill (s : State) : State := { s with eill := true }

end Sys2Proof.Machine
end

