-- ==== Sys2Proof/Machine/Frames.lean ====
section
/-! DEFINITION. The pure functions of the Packet Codec (41_codec.md): splitting and assembling fields, building command
frames, the decode function, the expected response length and the motor-state classifier. -/

namespace Sys2Proof.Machine

/-- `v & 0xFF`, the byte of a field that goes first on the wire (20_memory.md R52). -/
def loByte (v : Half) : Byte := v.extractLsb' 0 8

/-- `v >> 8`, the byte of a field that goes second on the wire (R52). -/
def hiByte (v : Half) : Byte := v.extractLsb' 8 8

/-- `le16(lo, hi) = lo + 256 * hi`, that is the two bytes side by side with `hi` on top (41_codec.md R121). -/
def le16 (lo hi : Byte) : Half := lo.setWidth 16 ||| (hi.setWidth 16 <<< 8)

/-- The payload of a command frame (R122). -/
def cmdPayload (kind : Byte) (data : Half) : List Byte := [kind, loByte data, hiByte data]

/-- `cmdframe`: the payload and its checksum (R122, 30_encoding.md R71). -/
def cmdframe (kind : Byte) (data : Half) : List Byte :=
  cmdPayload kind data ++ [crc8 (cmdPayload kind data)]

/-- `word4`: bytes packed with byte `k` at bits `8k+7 : 8k` (R122, 20_memory.md R53). -/
def word4 : List Byte → Word
  | [] => 0#32
  | b :: bs => b.setWidth 32 ||| (word4 bs <<< 8)

/-- `rlen`: the response length the host expects after a frame of a kind (R125), where the spec gives one. The block
neither returns nor stores it. -/
def rlen (kind : Byte) : Option Nat :=
  if kind = Config.kindSetSpeed then some 0
  else if kind = Config.kindTelemReq then some Config.tlmLen
  else none

/-- The seven payload bytes of a telemetry frame in wire order (30_encoding.md R74). -/
def telemetryPayload (duty ref avg : Half) (mstate : Byte) : List Byte :=
  [loByte duty, hiByte duty, loByte ref, hiByte ref, loByte avg, hiByte avg, mstate]

/-- The eight bytes of a telemetry frame in wire order, whatever its checksum byte (R74). -/
def telemetryBytes (duty ref avg : Half) (mstate crc : Byte) : List Byte :=
  telemetryPayload duty ref avg mstate ++ [crc]

/-- The three results of `decode` (41_codec.md R129), never merged (60_exceptions.md R193). -/
inductive FrameResult where
  | incomplete
  | checksumMismatch (expected received : Byte)
  | sample (duty ref avg : Half) (mstate : Byte)
  deriving DecidableEq, Repr

/-- `decode` (R129): the length test first, then the checksum (R130). -/
def decodeFrame (bytes : List Byte) : FrameResult :=
  match bytes with
  | [b0, b1, b2, b3, b4, b5, b6, b7] =>
    if crc8 [b0, b1, b2, b3, b4, b5, b6] ≠ b7 then
      .checksumMismatch (crc8 [b0, b1, b2, b3, b4, b5, b6]) b7
    else .sample (le16 b0 b1) (le16 b2 b3) (le16 b4 b5) b6
  | _ => .incomplete

/-- `MST_TABLE` (41_codec.md R140): open but for its one known fact, that code 99 is not in it (R142; log 8). -/
def mstTable (code : Byte) : Option MotorClass :=
  if code = 99#8 then none else Config.mstRaw code

/-- The index of a class (R141). -/
def classIndex : MotorClass → BitVec 4
  | .idle => 0#4
  | .alignment => 1#4
  | .start => 2#4
  | .run => 3#4
  | .stop => 4#4
  | .faultNow => 5#4
  | .faultOver => 6#4
  | .iclWait => 7#4
  | .chargeBootCap => 8#4
  | .offsetCalib => 9#4
  | .switchOver => 10#4
  | .waitStopMotor => 11#4

/-- `classify` (R140): lookup with default 15, `UNKNOWN`. -/
def classify (code : Byte) : BitVec 4 :=
  match mstTable code with
  | some c => classIndex c
  | none => 15#4

end Sys2Proof.Machine
end

