-- ==== Sys2Proof/Machine/Metric.lean ====
section
/-! DEFINITION. The Oscillation Metric as pure functions of a history, in exact integers (42_history.md R152 to R157). -/

namespace Sys2Proof.Machine

/-- `sum(h)` (R152). -/
def histSum (h : List Half) : Nat := (h.map BitVec.toNat).sum

/-- `abs(n * x - total)`, one entry's deviation from the mean times the length (R153). -/
def entryDev (n total : Nat) (x : Half) : Nat := ((n : Int) * (x.toNat : Int) - (total : Int)).natAbs

/-- `devn(h)` (R153): the greatest of the entries' deviations. -/
def devn (h : List Half) : Nat := (h.map (entryDev h.length (histSum h))).foldr max 0

/-- `rnd(p, q)` (R155): `p / q` to the nearest integer, an exact half upward. -/
def rnd (p q : Nat) : Nat := (2 * p + q) / (2 * q)

/-- `pctm(h)` (R156). -/
def pctm (h : List Half) : Nat :=
  if 0 < histSum h then rnd (100 * Config.pctScale * devn h) (histSum h) else 0

/-- `pctr(h, r)` (R157). -/
def pctr (h : List Half) (r : Half) : Nat :=
  if 0 < r.toNat then rnd (100 * Config.pctScale * devn h) (h.length * r.toNat) else 0

end Sys2Proof.Machine
end

