-- ==== Sys2Proof/Machine/Ops.lean ====
section
/-! DEFINITION. The shared operations: answering, failing (the block's one kind of exception), reset, the link, the
receive buffer, the decoder, the history and the metric registers. -/

namespace Sys2Proof.Machine

/-- `respond(STATUS, data)` (00_scope.md R15): every operation ends with exactly one. -/
def respond (st : Status) (d : Word) (s : State) : State := { s with out := s.out ++ [⟨st, d⟩] }

/-- `raise S(data)` (R15), the block's only exception: an early, failing response with no other change of state.
There is no trap entry and no return (60_exceptions.md R198, R199). -/
def raiseStatus (st : Status) (d : Word) (s : State) : State := respond st d s

/-- `raise ILLEGAL` (R15, 30_encoding.md R88): sets `EILL` and answers ILLEGAL with data 0. -/
def raiseIllegal (s : State) : State := raiseStatus .illegal 0#32 (setEill s)

/-- Every register to its reset value (70_reset_and_hazards.md R220, R221), by the reset input and by `SYS.RST`. What
the host has queued, what it was answered and what is on the link are not registers and stay (log 9). -/
def resetBlock (s : State) : State := { State.reset with port := s.port, out := s.out, sent := s.sent }

/-- The Transport sends the bytes of a frame in frame order (60_exceptions.md R206 (a), 20_memory.md R54; log 4). -/
def putOnLink (bytes : List Byte) (s : State) : State := { s with sent := s.sent ++ bytes }

/-- `RXN <- 0`; `RXB` is not written (41_codec.md R126). -/
def emptyBuffer (s : State) : State := { s with rxn := 0#4 }

/-- One received byte: stored and counted while there is room (R127), else dropped and `RXN <- 9` (R128). -/
def pushByte (b : Byte) (s : State) : State :=
  if s.rxn < 8#4 then
    respond .ok ((s.rxn + 1#4).setWidth 32)
      { s with rxb := s.rxb.setIfInBounds s.rxn.toNat b, rxn := s.rxn + 1#4 }
  else respond .rxFull 9#32 { s with rxn := 9#4 }

/-- The seven checksummed bytes of the receive buffer. -/
def rxPayload (rxb : Vector Byte 8) : List Byte := [rxb[0], rxb[1], rxb[2], rxb[3], rxb[4], rxb[5], rxb[6]]

/-- The four sample registers from the receive buffer, together (10_state.md R29, 41_codec.md R132). -/
def loadSample (rxb : Vector Byte 8) (s : State) : State :=
  { s with duty := le16 rxb[0] rxb[1], ref := le16 rxb[2] rxb[3], avg := le16 rxb[4] rxb[5], mstate := rxb[6] }

/-- `DEC` (R132): the buffer is consumed in every case; the length test, then the checksum test (R130). -/
def decodeBuffer (s : State) : State :=
  if s.rxn ≠ 8#4 then
    respond .incomplete (s.rxn.setWidth 32) (setOutcome .incomplete (emptyBuffer s))
  else if crc8 (rxPayload s.rxb) ≠ s.rxb[7] then
    respond .ckMismatch (((crc8 (rxPayload s.rxb)).setWidth 32 <<< 8) ||| (s.rxb[7]).setWidth 32)
      (setOutcome .ckMismatch (emptyBuffer s))
  else respond .ok 0#32 (setOutcome .valid (loadSample s.rxb (emptyBuffer s)))

/-- The entry a push evicts, in the width of `SUM`: 0 where nothing is evicted (10_state.md R36). -/
def evicted (s : State) : BitVec 22 :=
  if s.hcnt.toNat < Config.hcap then 0#22
  else match s.h with
    | [] => 0#22
    | e :: _ => e.setWidth 22

/-- `push(H, v)` with `HCNT` and `SUM` (10_state.md R34, R36): append, evicting the oldest entry at capacity. -/
def histPush (v : Half) (s : State) : State :=
  if s.hcnt.toNat < Config.hcap then
    { s with h := s.h ++ [v], hcnt := s.hcnt + 1#6, sum := s.sum + v.setWidth 22 - evicted s }
  else
    { s with h := s.h.tail ++ [v], hcnt := BitVec.ofNat 6 Config.hcap, sum := s.sum + v.setWidth 22 - evicted s }

/-- `H[i]`: an entry exists only below `HCNT` (10_state.md R33; log 10). -/
def histEntry (s : State) (i : Nat) : Option Half := if i < s.hcnt.toNat then s.h[i]? else none

/-- `metric_update(r)` (42_history.md R159), on the history as it stands. -/
def metricUpdate (r : Half) (s : State) : State :=
  if Config.mmin ≤ s.hcnt.toNat then
    { s with devn := BitVec.ofNat 22 (devn s.h), pctm := BitVec.ofNat 32 (pctm s.h),
             pctr := BitVec.ofNat 32 (pctr s.h r), mvalid := true }
  else clearMvalid s

/-- The answer of the two operations that compute a metric (R160, R162): OK when there is one, else NOMETRIC, with
`HCNT` either way. -/
def answerMetric (s : State) : State :=
  if s.mvalid then respond .ok (s.hcnt.setWidth 32) s else respond .noMetric (s.hcnt.setWidth 32) s

/-- The sample field a selector names (41_codec.md R136, R137). -/
def sampleField (s : State) : SampleSel → Word
  | .duty => s.duty.setWidth 32
  | .ref => s.ref.setWidth 32
  | .avg => s.avg.setWidth 32
  | .mstate => s.mstate.setWidth 32
  | .motorClass => (s.mstate.setWidth 32 <<< 8) ||| (classify s.mstate).setWidth 32

/-- What becomes of an input that is no instruction, by its format: an illegal command word is answered (30_encoding.md
R88), and a frame that is none of the table's is refused by name (log 7). -/
def rejectInput (e : Encoding) (s : State) : Host.Outcome State Fault Refusal :=
  match e with
  | .cmd32 _ => .next (raiseIllegal s)
  | .wire4 _ => .refused .unknownFrame
  | .wire8 _ => .refused .unknownFrame

end Sys2Proof.Machine
end

