-- ==== Sys2Proof/Machine/Checksum.lean ====
section
/-! DEFINITION. The Checksum Engine's operations `CK.CLR`, `CK.ABS`, `CK.RD` (40_checksum.md R105 to R107). -/

namespace Sys2Proof.Machine

/-- `CK.CLR` (R105). -/
def execCkClr (s : State) : Host.Outcome State Fault Refusal :=
  .next (respond .ok 0#32 { s with crc := Config.init })

/-- `CK.ABS b` (R106): the answer is the new checksum. -/
def execCkAbs (b : Byte) (s : State) : Host.Outcome State Fault Refusal :=
  .next (respond .ok ((crc8Byte s.crc b).setWidth 32) { s with crc := crc8Byte s.crc b })

/-- `CK.RD` (R107): reading does not clear. -/
def execCkRd (s : State) : Host.Outcome State Fault Refusal := .next (respond .ok (s.crc.setWidth 32) s)

end Sys2Proof.Machine
end

