-- ==== Sys2Proof/Machine/Codec.lean ====
section
/-! DEFINITION. The Packet Codec's operations `ENC.SPD`, `ENC.TRQ`, `RX.CLR`, `RX.PUSH`, `DEC`, `SMP.RD`
(41_codec.md R123 to R136). None of them reads or writes `CRC` (40_checksum.md R114). -/

namespace Sys2Proof.Machine

/-- `ENC.SPD rpm` (R123): the SetSpeed frame as a word; no register changes. -/
def execEncSpd (rpm : Half) (s : State) : Host.Outcome State Fault Refusal :=
  .next (respond .ok (word4 (cmdframe Config.kindSetSpeed rpm)) s)

/-- `ENC.TRQ` (R124): the TelemetryRequest frame as a word; no register changes. -/
def execEncTrq (s : State) : Host.Outcome State Fault Refusal :=
  .next (respond .ok (word4 (cmdframe Config.kindTelemReq 0#16)) s)

/-- `RX.CLR` (R126). -/
def execRxClr (s : State) : Host.Outcome State Fault Refusal := .next (respond .ok 0#32 (emptyBuffer s))

/-- `RX.PUSH b` (R127, R128). -/
def execRxPush (b : Byte) (s : State) : Host.Outcome State Fault Refusal := .next (pushByte b s)

/-- `DEC` (R132). -/
def execDec (s : State) : Host.Outcome State Fault Refusal := .next (decodeBuffer s)

/-- `SMP.RD f` (R136): NOSAMPLE unless the last decode validated a frame; no register changes. -/
def execSmpRd (f : SampleSel) (s : State) : Host.Outcome State Fault Refusal :=
  if s.outcome ≠ .valid then .next (raiseStatus .noSample 0#32 s)
  else .next (respond .ok (sampleField s f) s)

end Sys2Proof.Machine
end

