-- ==== Sys2Proof/Machine/History.lean ====
section
/-! DEFINITION. The Sample History's operations `SMP.ACC`, `HS.PUSH`, `HS.MET`, `HS.RD`, `MET.RD`
(42_history.md R160 to R167). -/

namespace Sys2Proof.Machine

/-- `SMP.ACC` (R160): append the validated, new sample's speed, then compute on the history that includes it, against
that sample's own reference. NOSAMPLE changes nothing. -/
def execSmpAcc (s : State) : Host.Outcome State Fault Refusal :=
  if s.outcome = .valid ∧ s.snew = true then
    .next (answerMetric (metricUpdate s.ref (clearSnew (histPush s.avg s))))
  else .next (raiseStatus .noSample 0#32 s)

/-- `HS.PUSH v` (R161): append, and the held metric no longer describes the history. -/
def execHsPush (v : Half) (s : State) : Host.Outcome State Fault Refusal :=
  .next (respond .ok ((histPush v s).hcnt.setWidth 32) (clearMvalid (histPush v s)))

/-- `HS.MET ref` (R162). -/
def execHsMet (ref : Half) (s : State) : Host.Outcome State Fault Refusal :=
  .next (answerMetric (metricUpdate ref s))

/-- `HS.RD i` (R166): RANGE where there is no entry; no register changes. -/
def execHsRd (i : Half) (s : State) : Host.Outcome State Fault Refusal :=
  match histEntry s i.toNat with
  | some v => .next (respond .ok (v.setWidth 32) s)
  | none => .next (raiseStatus .range 0#32 s)

/-- `MET.RD f` (R167): the metric only while `MVALID = 1`, `SUM` and `HCNT` always; no register changes. -/
def execMetRd (f : MetricSel) (s : State) : Host.Outcome State Fault Refusal :=
  match f with
  | .pctm => if s.mvalid then .next (respond .ok s.pctm s) else .next (raiseStatus .noMetric 0#32 s)
  | .pctr => if s.mvalid then .next (respond .ok s.pctr s) else .next (raiseStatus .noMetric 0#32 s)
  | .devn => if s.mvalid then .next (respond .ok (s.devn.setWidth 32) s) else .next (raiseStatus .noMetric 0#32 s)
  | .sum => .next (respond .ok (s.sum.setWidth 32) s)
  | .hcnt => .next (respond .ok (s.hcnt.setWidth 32) s)

end Sys2Proof.Machine
end

