-- ==== Sys2Proof/Machine/System.lean ====
section
/-! DEFINITION. The system operations `SYS.RST` and `SYS.STAT` (43_system.md). -/

namespace Sys2Proof.Machine

/-- `SYS.RST` (43_system.md R181): every register to its reset value, then OK. -/
def execSysRst (s : State) : Host.Outcome State Fault Refusal := .next (respond .ok 0#32 (resetBlock s))

/-- `SYS.STAT` (R182): the status word; no register changes. -/
def execSysStat (s : State) : Host.Outcome State Fault Refusal := .next (respond .ok (statusWord s) s)

end Sys2Proof.Machine
end

