-- ==== Sys2Proof/Machine/Wire.lean ====
section
/-! DEFINITION. The three wire frames of the opcode table as the block meets them (30_encoding.md R72 to R74): the two
commands leave for the controller and touch no register (70_reset_and_hazards.md R232); the telemetry frame arrives as
eight received bytes and a decode (the note of its row in the opcode table). -/

namespace Sys2Proof.Machine

/-- A SetSpeed frame goes out: its four bytes, in frame order, with the checksum byte it carries (logs 4, 5). -/
def execSetspeed (rpm : Half) (crc : Byte) (s : State) : Host.Outcome State Fault Refusal :=
  .next (putOnLink (cmdPayload Config.kindSetSpeed rpm ++ [crc]) s)

/-- A TelemetryRequest frame goes out: the constant four bytes (R73; log 4). -/
def execTelemreq (s : State) : Host.Outcome State Fault Refusal :=
  .next (putOnLink (cmdframe Config.kindTelemReq 0#16) s)

/-- A telemetry frame comes in (log 4): `RX.PUSH` of its eight bytes in wire order, then `DEC`. -/
def execTelemetry (duty ref avg : Half) (mstate crc : Byte) (s : State) : Host.Outcome State Fault Refusal :=
  .next (decodeBuffer ((telemetryBytes duty ref avg mstate crc).foldl (fun t b => pushByte b t) s))

end Sys2Proof.Machine
end

