-- ==== Sys2Proof/Machine/Dispatch.lean ====
section
/-! DEFINITION. One arm per instruction: its meaning. -/

namespace Sys2Proof.Machine

def exec (i : Instr) (s : State) : Host.Outcome State Fault Refusal :=
  match i with
  | .sysRst => Sys2Proof.Machine.execSysRst s
  | .sysStat => Sys2Proof.Machine.execSysStat s
  | .ckClr => Sys2Proof.Machine.execCkClr s
  | .ckAbs b => Sys2Proof.Machine.execCkAbs b s
  | .ckRd => Sys2Proof.Machine.execCkRd s
  | .encSpd rpm => Sys2Proof.Machine.execEncSpd rpm s
  | .encTrq => Sys2Proof.Machine.execEncTrq s
  | .rxClr => Sys2Proof.Machine.execRxClr s
  | .rxPush b => Sys2Proof.Machine.execRxPush b s
  | .dec => Sys2Proof.Machine.execDec s
  | .smpRd f => Sys2Proof.Machine.execSmpRd f s
  | .smpAcc => Sys2Proof.Machine.execSmpAcc s
  | .hsPush v => Sys2Proof.Machine.execHsPush v s
  | .hsMet ref => Sys2Proof.Machine.execHsMet ref s
  | .hsRd idx => Sys2Proof.Machine.execHsRd idx s
  | .metRd f => Sys2Proof.Machine.execMetRd f s
  | .setspeed rpm crc => Sys2Proof.Machine.execSetspeed rpm crc s
  | .telemreq => Sys2Proof.Machine.execTelemreq s
  | .telemetry duty ref avg mstate crc => Sys2Proof.Machine.execTelemetry duty ref avg mstate crc s

end Sys2Proof.Machine
end

