-- ==== Sys2Proof/Machine/Fetch.lean ====
section
/-! DEFINITION. What one step does with the next input of the port (logs 1, 3). -/

namespace Sys2Proof.Machine

/-- Takes the presented encoding: run what it decodes to, else reject it. Decoding comes before any state is read
(60_exceptions.md R195). -/
def takeEncoding (e : Encoding) (s : State) : Host.Outcome State Fault Refusal :=
  match decode e with
  | .ok i => exec i s
  | .error _ => rejectInput e s

/-- Takes one input; `s` has it removed from its port already. -/
def takeInput (x : Input) (s : State) : Host.Outcome State Fault Refusal :=
  match x with
  | .present e => takeEncoding e s
  | .hardReset => .next (resetBlock s)

/-- One operation completely, in the order the inputs were accepted (20_memory.md R60). With nothing presented the
block keeps its state (log 1). -/
def takeNext (s : State) : Host.Outcome State Fault Refusal :=
  match s.port with
  | [] => .next s
  | x :: rest => takeInput x { s with port := rest }

/-- `s` with the encoding at the head of its port. -/
def presentNext (e : Encoding) (s : State) : State := { s with port := .present e :: s.port }

end Sys2Proof.Machine
end

