-- ==== Sys2Proof/Machine/Step.lean ====
section
/-! DEFINITION. One step of the machine, and a table word put where the next step takes it. -/

namespace Sys2Proof.Machine

/-- One step: the block takes the next input of its port. -/
def step (s : State) : Host.Outcome State Fault Refusal := takeNext s

/-- `s` with a word of the opcode table at the head of its port, so that the next step runs it (logs 3, 6). -/
def State.withFetchWord (s : State) (nbits w : Nat) : State := presentNext (tableEncoding nbits w) s

end Sys2Proof.Machine
end

