-- ==== Sys2Proof/Machine/Pseudo.lean ====
section
/-! DEFINITION. The pseudo-operations of 30_encoding.md R92 as the fixed lists of operations they stand for, the
polling cycle of 70_reset_and_hazards.md R231, and the mnemonics of R84. They are how a host uses the block, not state
and not steps of it. -/

namespace Sys2Proof.Machine

/-- `CK.MSG b0 ... b(k-1)` (R92). -/
def ckMsg (bytes : List Byte) : List Instr := [.ckClr] ++ bytes.map .ckAbs ++ [.ckRd]

/-- `RX.FRAME b0 ... b(k-1)` (R92). -/
def rxFrame (bytes : List Byte) : List Instr := [.rxClr] ++ bytes.map .rxPush

/-- `TLM.CYCLE b0 ... b(k-1)` (R92): `SMP.ACC` is issued whatever `DEC` answered. -/
def tlmCycle (bytes : List Byte) : List Instr := rxFrame bytes ++ [.dec, .smpAcc]

/-- The state-changing operations of the polling cycle of R231, given what `DEC` answered: `SMP.ACC` only after OK. -/
def pollCycle (bytes : List Byte) (decAnswer : Status) : List Instr :=
  rxFrame bytes ++ [.dec] ++ (if decAnswer = .ok then [.smpAcc] else [])

/-- Operations as the host presents them. -/
def asInputs (is : List Instr) : List Input := is.map (fun i => .present (encode i))

/-- The mnemonic of an instruction's row of the opcode table (R84). -/
def mnemonic : Instr → String
  | .sysRst => "SYS.RST"
  | .sysStat => "SYS.STAT"
  | .ckClr => "CK.CLR"
  | .ckAbs _ => "CK.ABS"
  | .ckRd => "CK.RD"
  | .encSpd _ => "ENC.SPD"
  | .encTrq => "ENC.TRQ"
  | .rxClr => "RX.CLR"
  | .rxPush _ => "RX.PUSH"
  | .dec => "DEC"
  | .smpRd _ => "SMP.RD"
  | .smpAcc => "SMP.ACC"
  | .hsPush _ => "HS.PUSH"
  | .hsMet _ => "HS.MET"
  | .hsRd _ => "HS.RD"
  | .metRd _ => "MET.RD"
  | .setspeed _ _ => "SETSPEED"
  | .telemreq => "TELEMREQ"
  | .telemetry _ _ _ _ _ => "TELEMETRY"

/-- The operand of an operation's assembly line, if its form has one (R81, R91). -/
def asmOperand : Instr → Option Nat
  | .ckAbs b => some b.toNat
  | .encSpd rpm => some rpm.toNat
  | .rxPush b => some b.toNat
  | .smpRd f => some (sampleSelNum f).toNat
  | .hsPush v => some v.toNat
  | .hsMet ref => some ref.toNat
  | .hsRd i => some i.toNat
  | .metRd f => some (metricSelNum f).toNat
  | .sysRst => none
  | .sysStat => none
  | .ckClr => none
  | .ckRd => none
  | .encTrq => none
  | .rxClr => none
  | .dec => none
  | .smpAcc => none
  | .setspeed _ _ => none
  | .telemreq => none
  | .telemetry _ _ _ _ _ => none

/-- The assembly line of an operation (R91), with its operand as a decimal numeral. A wire frame has no line. -/
def asmLine (i : Instr) : String :=
  match asmOperand i with
  | some n => mnemonic i ++ " " ++ toString n
  | none => mnemonic i

end Sys2Proof.Machine
end

