-- ==== Sys2Proof/Safety.lean ====
section
/-! DEFINITION. What counts as a good state and a good run: the whole-state invariants of 10_state.md R46, and the
predicates that say which registers two states agree on, unit by unit. -/

namespace Sys2Proof.Machine

/-- The invariants of every state reachable from reset (10_state.md R46 (a) to (f)). -/
structure State.Inv (s : State) : Prop where
  /-- (a) `RXN` is at most 9 -/
  rxn_le : s.rxn.toNat ≤ 9
  /-- (b) `HCNT` is at most 50 -/
  hcnt_le : s.hcnt.toNat ≤ 50
  /-- (b) `H` has exactly `HCNT` entries -/
  h_length : s.h.length = s.hcnt.toNat
  /-- (c) `SUM` is the sum of the entries -/
  sum_eq : s.sum.toNat = histSum s.h
  /-- (d) a new sample is a validated one -/
  snew_valid : s.snew = true → s.outcome = .valid
  /-- (e) a metric is held only over ten entries or more -/
  mvalid_count : s.mvalid = true → 10 ≤ s.hcnt.toNat
  /-- (e) and it is the metric of the present history -/
  mvalid_devn : s.mvalid = true → s.devn.toNat = Machine.devn s.h
  mvalid_pctm : s.mvalid = true → s.pctm.toNat = Machine.pctm s.h
  mvalid_pctr : s.mvalid = true → ∃ r : Half, s.pctr.toNat = Machine.pctr s.h r
  /-- (f) before the first decode there is no sample -/
  none_zero : s.outcome = .none → s.duty = 0#16 ∧ s.ref = 0#16 ∧ s.avg = 0#16 ∧ s.mstate = 0#8 ∧ s.snew = false

/-- The two states agree on the receive buffer: `RXB`, `RXN`. -/
def SameBuffer (s t : State) : Prop := t.rxb = s.rxb ∧ t.rxn = s.rxn

/-- The two states agree on the decode result and the sample: `OUTCOME`, `SNEW`, `DUTY`, `REF`, `AVG`, `MSTATE`. -/
def SameSample (s t : State) : Prop :=
  t.outcome = s.outcome ∧ t.snew = s.snew ∧ t.duty = s.duty ∧ t.ref = s.ref ∧ t.avg = s.avg ∧ t.mstate = s.mstate

/-- The two states agree on the history: `H`, `HCNT`, `SUM`. -/
def SameHistory (s t : State) : Prop := t.h = s.h ∧ t.hcnt = s.hcnt ∧ t.sum = s.sum

/-- The two states agree on the metric: `MVALID`, `DEVN`, `PCTM`, `PCTR`. -/
def SameMetric (s t : State) : Prop :=
  t.mvalid = s.mvalid ∧ t.devn = s.devn ∧ t.pctm = s.pctm ∧ t.pctr = s.pctr

/-- The two states agree on every register of the block (10_state.md R20). -/
def SameRegisters (s t : State) : Prop :=
  t.crc = s.crc ∧ SameBuffer s t ∧ SameSample s t ∧ SameHistory s t ∧ SameMetric s t ∧ t.eill = s.eill

/-- An input resets the block: the reset input, or the command word of `SYS.RST`. -/
def isReset (x : Input) : Bool := x == .hardReset || x == .present (.cmd32 0x01000000#32)

/-- An input is accepted: the reset input, or an encoding that decodes to an instruction. -/
def isLegal : Input → Bool
  | .hardReset => true
  | .present e => (decode e).toOption.isSome

/-- `k` steps from a state, if none of them stops: the fold of the step over what was accepted (20_memory.md R61). -/
def runSteps : Nat → State → Option State
  | 0, s => some s
  | k + 1, s =>
    match step s with
    | .next t => runSteps k t
    | .fault _ => none
    | .refused _ => none

/-- A run of `k` steps is safe when none of them stops. -/
def SafeRun (k : Nat) (s : State) : Bool := (runSteps k s).isSome

end Sys2Proof.Machine
end

