-- ==== Sys2Proof/Certificates/Slice0/Obligations.lean ====
section
/-! DEFINITION. The statements for the provers, one `def Obligations.<Name> : Prop` each, taken from the numbered rules of
spec/. A statement of an operation's result is an equation `exec i s = .next …` with the whole next state, so it says at
once that the operation completes, what it writes and that it writes nothing else. -/

namespace Sys2Proof.Claims

open Sys2Proof.Machine

/-- The command word is answered ILLEGAL: `EILL` is set, nothing else changes, and the next input is accepted
(30_encoding.md R88). -/
def AnsweredIllegal (w : Word) : Prop :=
  ∀ (s : State) (rest : List Input), s.port = .present (.cmd32 w) :: rest →
    step s = .next { s with port := rest, eill := true, out := s.out ++ [⟨.illegal, 0#32⟩] }

/-- The words of an operation code of form `none` with an operand or reserved bits are illegal (R88 (b), (c)). -/
def TakesNoOperand (op : Byte) : Prop :=
  ∀ w : Word, w.extractLsb' 24 8 = op → (w.extractLsb' 0 16 ≠ 0#16 ∨ w.extractLsb' 16 8 ≠ 0#8) → AnsweredIllegal w

/-- The words of an operation code of form `byte` with an operand above 255 or reserved bits are illegal (R88 (b), (d)). -/
def TakesByte (op : Byte) : Prop :=
  ∀ w : Word, w.extractLsb' 24 8 = op → (w.extractLsb' 8 8 ≠ 0#8 ∨ w.extractLsb' 16 8 ≠ 0#8) → AnsweredIllegal w

/-- The words of an operation code of form `half` or `index` with reserved bits are illegal (R88 (b)). -/
def TakesHalf (op : Byte) : Prop :=
  ∀ w : Word, w.extractLsb' 24 8 = op → w.extractLsb' 16 8 ≠ 0#8 → AnsweredIllegal w

/-- The words of an operation code of form `sel` with a selector above 4 or reserved bits are illegal (R88 (b), (e)). -/
def TakesSelector (op : Byte) : Prop :=
  ∀ w : Word, w.extractLsb' 24 8 = op → (4 < (w.extractLsb' 0 16).toNat ∨ w.extractLsb' 16 8 ≠ 0#8) →
    AnsweredIllegal w

/-- `k` steps of the machine from `s` end in `t`. -/
def RunsTo (k : Nat) (s t : State) : Prop := runSteps k s = some t

/-- The presented command word. -/
def command (w : Word) : Input := .present (.cmd32 w)

/-- An instruction is one of the sixteen operations, not a wire frame. -/
def IsOperation (i : Instr) : Prop := ∃ w, encode i = .cmd32 w

/-- The operation only answers: its answer does not depend on what was answered before, so repeating it gives it
again, and no register changes (20_memory.md R59). -/
def OnlyAnswers (i : Instr) (s : State) : Prop :=
  ∃ r : Response, ∀ o : List Response, exec i { s with out := o } = .next { s with out := o ++ [r] }

/-- The illegal command words, in the words of 30_encoding.md R88 (a) to (e). -/
def IllegalWord (w : Word) : Prop :=
  w.extractLsb' 24 8 ∉ [0x01#8, 0x02#8, 0x10#8, 0x11#8, 0x12#8, 0x21#8, 0x22#8, 0x30#8] ++
    [0x31#8, 0x32#8, 0x33#8, 0x40#8, 0x41#8, 0x42#8, 0x43#8, 0x44#8] ∨
  w.extractLsb' 16 8 ≠ 0#8 ∨
  (w.extractLsb' 24 8 ∈ [0x01#8, 0x02#8, 0x10#8, 0x12#8, 0x22#8, 0x30#8, 0x32#8, 0x40#8] ∧ w.extractLsb' 0 16 ≠ 0#16) ∨
  (w.extractLsb' 24 8 ∈ [0x11#8, 0x31#8] ∧ w.extractLsb' 8 8 ≠ 0#8) ∨
  (w.extractLsb' 24 8 ∈ [0x33#8, 0x44#8] ∧ 4 < (w.extractLsb' 0 16).toNat)

/-- A row of the table of 30_encoding.md R84: its match, its mask, whether it has the constraint `arg <= 4`, and the
operation with the operand its form takes from the word (R81). -/
structure Row where
  mat : Word
  mask : Word
  selector : Bool
  build : Word → Instr

/-- The row selects the word. -/
def Row.accepts (r : Row) (w : Word) : Prop :=
  w &&& r.mask = r.mat ∧ (r.selector = true → (w.setWidth 16).toNat ≤ 4)

/-- The sixteen rows of R84. -/
def opcodeRows : List Row :=
  [⟨0x01000000#32, 0xFFFFFFFF#32, false, fun _ => .sysRst⟩, ⟨0x02000000#32, 0xFFFFFFFF#32, false, fun _ => .sysStat⟩,
   ⟨0x10000000#32, 0xFFFFFFFF#32, false, fun _ => .ckClr⟩, ⟨0x11000000#32, 0xFFFFFF00#32, false, fun w => .ckAbs (w.setWidth 8)⟩,
   ⟨0x12000000#32, 0xFFFFFFFF#32, false, fun _ => .ckRd⟩, ⟨0x21000000#32, 0xFFFF0000#32, false, fun w => .encSpd (w.setWidth 16)⟩,
   ⟨0x22000000#32, 0xFFFFFFFF#32, false, fun _ => .encTrq⟩, ⟨0x30000000#32, 0xFFFFFFFF#32, false, fun _ => .rxClr⟩] ++
  [⟨0x31000000#32, 0xFFFFFF00#32, false, fun w => .rxPush (w.setWidth 8)⟩, ⟨0x32000000#32, 0xFFFFFFFF#32, false, fun _ => .dec⟩,
   ⟨0x33000000#32, 0xFFFFFFF8#32, true, fun w => .smpRd ([.duty, .ref, .avg, .mstate, .motorClass].getD (w.toNat % 8) .duty)⟩,
   ⟨0x40000000#32, 0xFFFFFFFF#32, false, fun _ => .smpAcc⟩, ⟨0x41000000#32, 0xFFFF0000#32, false, fun w => .hsPush (w.setWidth 16)⟩,
   ⟨0x42000000#32, 0xFFFF0000#32, false, fun w => .hsMet (w.setWidth 16)⟩,
   ⟨0x43000000#32, 0xFFFF0000#32, false, fun w => .hsRd (w.setWidth 16)⟩,
   ⟨0x44000000#32, 0xFFFFFFF8#32, true, fun w => .metRd ([.pctm, .pctr, .devn, .sum, .hcnt].getD (w.toNat % 8) .pctm)⟩]

/-- The table of 40_checksum.md R113, row by row. -/
def crcTable : List Byte :=
  ([0x00, 0x07, 0x0E, 0x09, 0x1C, 0x1B, 0x12, 0x15, 0x38, 0x3F, 0x36, 0x31, 0x24, 0x23, 0x2A, 0x2D] : List Byte) ++
  [0x70, 0x77, 0x7E, 0x79, 0x6C, 0x6B, 0x62, 0x65, 0x48, 0x4F, 0x46, 0x41, 0x54, 0x53, 0x5A, 0x5D] ++
  [0xE0, 0xE7, 0xEE, 0xE9, 0xFC, 0xFB, 0xF2, 0xF5, 0xD8, 0xDF, 0xD6, 0xD1, 0xC4, 0xC3, 0xCA, 0xCD] ++
  [0x90, 0x97, 0x9E, 0x99, 0x8C, 0x8B, 0x82, 0x85, 0xA8, 0xAF, 0xA6, 0xA1, 0xB4, 0xB3, 0xBA, 0xBD] ++
  [0xC7, 0xC0, 0xC9, 0xCE, 0xDB, 0xDC, 0xD5, 0xD2, 0xFF, 0xF8, 0xF1, 0xF6, 0xE3, 0xE4, 0xED, 0xEA] ++
  [0xB7, 0xB0, 0xB9, 0xBE, 0xAB, 0xAC, 0xA5, 0xA2, 0x8F, 0x88, 0x81, 0x86, 0x93, 0x94, 0x9D, 0x9A] ++
  [0x27, 0x20, 0x29, 0x2E, 0x3B, 0x3C, 0x35, 0x32, 0x1F, 0x18, 0x11, 0x16, 0x03, 0x04, 0x0D, 0x0A] ++
  [0x57, 0x50, 0x59, 0x5E, 0x4B, 0x4C, 0x45, 0x42, 0x6F, 0x68, 0x61, 0x66, 0x73, 0x74, 0x7D, 0x7A] ++
  [0x89, 0x8E, 0x87, 0x80, 0x95, 0x92, 0x9B, 0x9C, 0xB1, 0xB6, 0xBF, 0xB8, 0xAD, 0xAA, 0xA3, 0xA4] ++
  [0xF9, 0xFE, 0xF7, 0xF0, 0xE5, 0xE2, 0xEB, 0xEC, 0xC1, 0xC6, 0xCF, 0xC8, 0xDD, 0xDA, 0xD3, 0xD4] ++
  [0x69, 0x6E, 0x67, 0x60, 0x75, 0x72, 0x7B, 0x7C, 0x51, 0x56, 0x5F, 0x58, 0x4D, 0x4A, 0x43, 0x44] ++
  [0x19, 0x1E, 0x17, 0x10, 0x05, 0x02, 0x0B, 0x0C, 0x21, 0x26, 0x2F, 0x28, 0x3D, 0x3A, 0x33, 0x34] ++
  [0x4E, 0x49, 0x40, 0x47, 0x52, 0x55, 0x5C, 0x5B, 0x76, 0x71, 0x78, 0x7F, 0x6A, 0x6D, 0x64, 0x63] ++
  [0x3E, 0x39, 0x30, 0x37, 0x22, 0x25, 0x2C, 0x2B, 0x06, 0x01, 0x08, 0x0F, 0x1A, 0x1D, 0x14, 0x13] ++
  [0xAE, 0xA9, 0xA0, 0xA7, 0xB2, 0xB5, 0xBC, 0xBB, 0x96, 0x91, 0x98, 0x9F, 0x8A, 0x8D, 0x84, 0x83] ++
  [0xDE, 0xD9, 0xD0, 0xD7, 0xC2, 0xC5, 0xCC, 0xCB, 0xE6, 0xE1, 0xE8, 0xEF, 0xFA, 0xFD, 0xF4, 0xF3]

/-- The bytes absorbed by a list of operations, in order. -/
def absorbed : List Instr → List Byte
  | [] => []
  | .ckAbs b :: is => b :: absorbed is
  | _ :: is => absorbed is

/-- The mean absolute percentage of R154 as an exact rational: `100 * M / S`. -/
def exactPctMean (h : List Half) : ℚ :=
  if 0 < histSum h then 100 * (devn h : ℚ) / (histSum h : ℚ) else 0

/-- The percentage of the reference of R154 as an exact rational: `100 * M / (n * r)`. -/
def exactPctRef (h : List Half) (r : Half) : ℚ :=
  if 0 < r.toNat then 100 * (devn h : ℚ) / ((h.length : ℚ) * (r.toNat : ℚ)) else 0

end Sys2Proof.Claims

open Sys2Proof Sys2Proof.Machine Sys2Proof.Claims

/-! ### The step and the encodings -/

/-- A step runs what the next input decodes to, with the input taken from the port and nothing else added; with nothing
presented the state stays (log 1); the reset input resets every register (70_reset_and_hazards.md R220) and leaves the
model's own three fields (log 9); a 4-byte frame that is none of the table's is refused by name (log 7). -/
def Obligations.StepRunsTheDecodedInstruction : Prop :=
  (∀ (s : State) (e : Encoding) (rest : List Input) (i : Instr),
    s.port = .present e :: rest → decode e = .ok i → step s = exec i { s with port := rest }) ∧
  (∀ s : State, s.port = [] → step s = .next s) ∧
  (∀ (s : State) (rest : List Input), s.port = .hardReset :: rest →
    step s = .next { State.reset with port := rest, out := s.out, sent := s.sent }) ∧
  (∀ (s : State) (w : Word) (rest : List Input), s.port = .present (.wire4 w) :: rest →
    w.extractLsb' 0 8 ≠ 0x01#8 → w ≠ 0xD6000002#32 → step s = .refused .unknownFrame)

/-- A table word put where the step takes its input is run by the very next step (logs 3, 6). -/
def Obligations.FetchedTableWordRuns : Prop :=
  ∀ (s : State) (nbits w : Nat) (i : Instr), decodeTableWord nbits w = some i →
    step (s.withFetchWord nbits w) = exec i s

/-- One word of each format and operand form, written out from R84, R72, R73, R74, decodes to what it stands for. -/
def Obligations.SampleWordsDecode : Prop :=
  decode (.cmd32 0x01000000#32) = .ok .sysRst ∧ decode (.cmd32 0x110000D6#32) = .ok (.ckAbs 0xD6#8) ∧
  decode (.cmd32 0x210003E8#32) = .ok (.encSpd 1000#16) ∧ decode (.cmd32 0x33000004#32) = .ok (.smpRd .motorClass) ∧
  decode (.cmd32 0x43000031#32) = .ok (.hsRd 49#16) ∧ decode (.cmd32 0x44000002#32) = .ok (.metRd .devn) ∧
  decode (.wire4 0x8903E801#32) = .ok (.setspeed 1000#16 0x89#8) ∧ decode (.wire4 0xD6000002#32) = .ok .telemreq ∧
  decode (.wire8 0x04060096006401F4#64) = .ok (.telemetry 500#16 100#16 150#16 6#8 0x04#8)

/-- Decoding an encoded instruction gives it back, for every instruction with every operand. For a `SETSPEED` or
`TELEMETRY` frame whose checksum byte is wrong, which R75 gives no frame for, this is the model's choice (log 5, DESIGN
CHOICE: the checksum byte is checked by `Instr.wf`, not by the decoder). -/
def Obligations.DecodeOfEncode : Prop := ∀ i : Instr, decode (encode i) = .ok i

/-- Encoding a decoded instruction gives its bits back, every bit: each encoding has one meaning and each instruction
one encoding in each format. That a `SETSPEED` or `TELEMETRY` frame with a wrong checksum byte decodes at all is the
model's choice (log 5, DESIGN CHOICE). -/
def Obligations.EncodeOfDecode : Prop := ∀ (e : Encoding) (i : Instr), decode e = .ok i → encode i = e

/-- The illegal command words are those of R88 (a) to (e), no more and no fewer; each changes nothing but `EILL`,
answers ILLEGAL with 0, and the next input is accepted normally. -/
def Obligations.IllegalWordsOnlySetEill : Prop :=
  (∀ w : Word, IllegalWord w → AnsweredIllegal w ∧ ∀ i : Instr, decode (.cmd32 w) ≠ .ok i) ∧
  (∀ w : Word, ¬ IllegalWord w → ∃ i : Instr, decode (.cmd32 w) = .ok i)

/-- The decoder is the table of R84: it answers the operation of the row whose match, mask and constraint accept the
word, and no two rows accept one word. -/
def Obligations.DecoderFollowsTheOpcodeTable : Prop :=
  (∀ (w : Word) (i : Instr), decode (.cmd32 w) = .ok i ↔ ∃ r ∈ opcodeRows, r.accepts w ∧ r.build w = i) ∧
  opcodeRows.Pairwise (fun r r' => ∀ w : Word, ¬ (r.accepts w ∧ r'.accepts w))

/-- 262674 of the 2^32 command words are legal; the all-zero and the all-ones words are not. (The spec's own count,
marked derived: "the legal ones number 8 … = 262674".) -/
def Obligations.LegalWordCount : Prop :=
  Set.ncard {w : Word | ∃ i : Instr, decode (.cmd32 w) = .ok i} = 262674 ∧
  (∀ i : Instr, decode (.cmd32 0x00000000#32) ≠ .ok i) ∧ (∀ i : Instr, decode (.cmd32 0xFFFFFFFF#32) ≠ .ok i)

/-- Every command word, in every state, has one next state and one response (R190): the step answers a next state, the
word is taken, one response is added, nothing is put on the link. -/
def Obligations.EveryCommandWordHasOneResponse : Prop :=
  ∀ (s : State) (w : Word) (rest : List Input), s.port = command w :: rest →
    ∃ (t : State) (r : Response), step s = .next t ∧ t.port = rest ∧ t.out = s.out ++ [r] ∧ t.sent = s.sent

/-- Any sequence of command words runs to its end, in order, with as many responses as words (20_memory.md R60, R61). -/
def Obligations.CommandSequencesRunToCompletion : Prop :=
  ∀ (ws : List Word) (s : State) (rest : List Input), s.port = ws.map command ++ rest →
    ∃ (t : State) (rs : List Response), RunsTo ws.length s t ∧ t.port = rest ∧ rs.length = ws.length ∧
      t.out = s.out ++ rs

/-! ### Whole-state invariants and reset -/

/-- The invariants of 10_state.md R46, which the spec marks as derived, are kept by every step from every state that
meets them. -/
def Obligations.EveryStepKeepsTheInvariant : Prop := ∀ s t : State, s.Inv → step s = .next t → t.Inv

/-- The invariants hold at reset. -/
def Obligations.ResetMeetsTheInvariant : Prop := State.reset.Inv

/-- The reset state of R221, and `SYS.STAT` immediately after reset answers OK 0. -/
def Obligations.ResetStateIsAsSpecified : Prop :=
  State.reset.crc = 0x00#8 ∧ (∀ k : Fin 8, State.reset.rxb[k] = 0x00#8) ∧ State.reset.rxn = 0#4 ∧
  outcomeCode State.reset.outcome = 0#2 ∧ State.reset.snew = false ∧ State.reset.duty = 0x0000#16 ∧
  State.reset.ref = 0x0000#16 ∧ State.reset.avg = 0x0000#16 ∧ State.reset.mstate = 0x00#8 ∧ State.reset.h = [] ∧
  State.reset.hcnt = 0#6 ∧ State.reset.sum = 0#22 ∧ State.reset.mvalid = false ∧ State.reset.devn = 0#22 ∧
  State.reset.pctm = 0#32 ∧ State.reset.pctr = 0#32 ∧ State.reset.eill = false ∧
  (∀ s : State, SameRegisters State.reset s → exec .sysStat s = .next { s with out := s.out ++ [⟨.ok, 0#32⟩] })

/-- `SYS.RST` (R181): the reset state, OK 0; it is the only operation that shortens the history or clears `EILL`
(from states that meet the invariant); an illegal `SYS.RST` resets nothing; `SYS.STAT` after it answers 0. -/
def Obligations.SysRstRestoresTheResetState : Prop :=
  (∀ s : State, exec .sysRst s =
    .next { State.reset with port := s.port, out := s.out ++ [⟨.ok, 0#32⟩], sent := s.sent }) ∧
  decode (.cmd32 0x01000000#32) = .ok .sysRst ∧ TakesNoOperand 0x01#8 ∧
  (∀ (i : Instr) (s t : State), s.Inv → exec i s = .next t → i ≠ .sysRst →
    s.h.length ≤ t.h.length ∧ (s.eill = true → t.eill = true)) ∧
  (∀ (s : State) (rest : List Input), s.port = command 0x01000000#32 :: command 0x02000000#32 :: rest →
    RunsTo 2 s { State.reset with port := rest, out := s.out ++ [⟨.ok, 0#32⟩, ⟨.ok, 0#32⟩], sent := s.sent })

/-- `SYS.STAT` (R182): the status word, field by field; no register changes; the `EILL` an illegal word sets is seen by
the next `SYS.STAT`. -/
def Obligations.SysStatShowsEveryField : Prop :=
  (∀ s : State, ∃ d : Word, exec .sysStat s = .next { s with out := s.out ++ [⟨.ok, d⟩] } ∧
    d.extractLsb' 0 2 = outcomeCode s.outcome ∧ d.getLsbD 2 = s.snew ∧ d.getLsbD 3 = s.mvalid ∧
    d.extractLsb' 4 4 = s.rxn ∧ d.extractLsb' 8 6 = s.hcnt ∧ d.extractLsb' 14 2 = 0#2 ∧ d.getLsbD 16 = s.eill ∧
    d.extractLsb' 17 15 = 0#15) ∧
  decode (.cmd32 0x02000000#32) = .ok .sysStat ∧ TakesNoOperand 0x02#8 ∧
  (∀ (s : State) (w : Word) (rest : List Input), w.extractLsb' 24 8 = 0x02#8 → w ≠ 0x02000000#32 →
    s.port = command w :: command 0x02000000#32 :: rest →
    ∃ (t : State) (d : Word), RunsTo 2 s t ∧ t.out = s.out ++ [⟨.illegal, 0#32⟩, ⟨.ok, d⟩] ∧ d.getLsbD 16 = true) ∧
  (∀ s : State, s.outcome = .valid → s.snew = false → s.mvalid = true → s.rxn = 0#4 → s.hcnt = 10#6 → s.eill = false →
    exec .sysStat s = .next { s with out := s.out ++ [⟨.ok, 0x00000A0B#32⟩] })

/-! ### The Checksum Engine -/

/-- `CK.CLR` (R105). -/
def Obligations.CkClrClearsTheChecksum : Prop :=
  (∀ s : State, exec .ckClr s = .next { s with crc := 0x00#8, out := s.out ++ [⟨.ok, 0#32⟩] }) ∧
  decode (.cmd32 0x10000000#32) = .ok .ckClr ∧ TakesNoOperand 0x10#8

/-- `CK.ABS b` (R106): `CRC` becomes `crc8_byte(CRC, b)`, which is the answer; a zero byte keeps a zero checksum, and a
byte equal to the checksum makes it zero. -/
def Obligations.CkAbsAbsorbsOneByte : Prop :=
  (∀ (s : State) (b : Byte), exec (.ckAbs b) s =
    .next { s with crc := crc8Byte s.crc b, out := s.out ++ [⟨.ok, (crc8Byte s.crc b).setWidth 32⟩] }) ∧
  (∀ b : Byte, decode (.cmd32 (0x11000000#32 ||| b.setWidth 32)) = .ok (.ckAbs b)) ∧ TakesByte 0x11#8 ∧
  crc8Byte 0x00#8 0x00#8 = 0x00#8 ∧ (∀ c : Byte, crc8Byte c c = 0x00#8) ∧ crc8Byte 0x00#8 0x01#8 = 0x07#8

/-- `CK.RD` (R107): answers `CRC` and changes nothing, so reading does not clear; the rule's example as a run. -/
def Obligations.CkRdAnswersTheChecksum : Prop :=
  (∀ s : State, exec .ckRd s = .next { s with out := s.out ++ [⟨.ok, s.crc.setWidth 32⟩] }) ∧
  decode (.cmd32 0x12000000#32) = .ok .ckRd ∧ TakesNoOperand 0x12#8 ∧
  (∀ (s : State) (rest : List Input), s.port = command 0x10000000#32 :: command 0x12000000#32 :: rest →
    RunsTo 2 s { s with port := rest, crc := 0x00#8, out := s.out ++ [⟨.ok, 0#32⟩, ⟨.ok, 0#32⟩] }) ∧
  (∀ (s : State) (rest : List Input),
    s.port = [0x10000000#32, 0x11000002#32, 0x11000000#32, 0x11000000#32, 0x12000000#32].map command ++ rest →
    ∃ t : State, RunsTo 5 s t ∧ t.crc = 0xD6#8 ∧ t.out.getLast? = some ⟨.ok, 0x000000D6#32⟩)

/-- The source's bit loop and the table of R113 are one function (R104, R113, which the spec marks as derived):
`crc8_byte(crc, b) = T[crc ^ b]`. -/
def Obligations.ByteStepIsTheTableLookup : Prop :=
  ∀ c b : Byte, crcTable[(c ^^^ b).toNat]? = some (crc8Byte c b)

/-- Linearity and bijectivity (R112, which the spec marks as derived): on equal-length messages `crc8` is linear, and two
messages that differ in exactly one byte have different checksums. -/
def Obligations.ChecksumIsLinearAndSeesOneByte : Prop :=
  (∀ m e : List Byte, m.length = e.length →
    crc8 (List.zipWith (fun x y => x ^^^ y) m e) = crc8 m ^^^ crc8 e) ∧
  (∀ (p q : List Byte) (x y : Byte), x ≠ y → crc8 (p ++ x :: q) ≠ crc8 (p ++ y :: q)) ∧
  (∀ b : Byte, Function.Bijective (fun c : Byte => crc8Byte c b)) ∧
  (∀ c : Byte, Function.Bijective (fun b : Byte => crc8Byte c b))

/-- Zero residue and zero blindness (R110, R111, which the spec marks as derived): a message followed by its checksum sums
to zero, the decoder's comparison is the residue test, and leading zero bytes do not change a checksum. -/
def Obligations.ZeroResidueAndZeroBlindness : Prop :=
  (∀ m : List Byte, crc8 (m ++ [crc8 m]) = 0x00#8) ∧
  (∀ (m : List Byte) (b : Byte), crc8 m = b ↔ crc8 (m ++ [b]) = 0x00#8) ∧
  (∀ (k : Nat) (m : List Byte), crc8 (List.replicate k 0x00#8 ++ m) = crc8 m ∧ crc8 (List.replicate k 0x00#8) = 0x00#8)

/-- Streaming (R25, R108, which the spec marks as derived): over any sequence of operations without `CK.CLR` and
`SYS.RST`, `CRC` is the fold of `crc8_byte` over the bytes absorbed, whatever operations stand between them. -/
def Obligations.ChecksumIsTheFoldOfAbsorbedBytes : Prop :=
  ∀ (is : List Instr) (s : State) (rest : List Input), (∀ i ∈ is, IsOperation i ∧ i ≠ .ckClr ∧ i ≠ .sysRst) →
    s.port = asInputs is ++ rest →
    ∃ t : State, RunsTo is.length s t ∧ t.port = rest ∧ t.crc = (absorbed is).foldl crc8Byte s.crc

/-- The codec operations neither write nor read `CRC` (R114): started with another `CRC` they do the same and keep that
other `CRC`. Only `CK.CLR`, `CK.ABS` and reset write it. -/
def Obligations.CodecDoesNotTouchTheChecksumRegister : Prop :=
  (∀ (i : Instr) (s t : State), exec i s = .next t →
    t.crc = s.crc ∨ (i = .sysRst ∧ t.crc = 0x00#8) ∨ (i = .ckClr ∧ t.crc = 0x00#8) ∨ (∃ b, i = .ckAbs b ∧ t.crc = crc8Byte s.crc b)) ∧
  (∀ (i : Instr) (s t : State) (c : Byte), (∃ rpm, i = .encSpd rpm) ∨ i = .encTrq ∨ i = .dec → exec i s = .next t →
    exec i { s with crc := c } = .next { t with crc := c })

/-! ### The Packet Codec -/

/-- Assembling and splitting a 16-bit field (R82): `le16(lo, hi) = lo + 256 * hi`, and the mapping is a bijection. -/
def Obligations.FieldBytesRoundTrip : Prop :=
  (∀ lo hi : Byte, (le16 lo hi).toNat = lo.toNat + 256 * hi.toNat) ∧
  (∀ v : Half, (loByte v).toNat = v.toNat % 256 ∧ (hiByte v).toNat = v.toNat / 256) ∧
  (∀ v : Half, le16 (loByte v) (hiByte v) = v) ∧
  (∀ lo hi : Byte, loByte (le16 lo hi) = lo ∧ hiByte (le16 lo hi) = hi)

/-- `ENC.SPD rpm` (R123): the answer is the frame `[0x01, rpm & 0xFF, rpm >> 8, crc]` as a word, no register changes, and
that word is the encoding of the well-formed SETSPEED frame of the opcode table. -/
def Obligations.EncSpdBuildsTheSetSpeedFrame : Prop :=
  (∀ (s : State) (rpm : Half), ∃ d : Word, exec (.encSpd rpm) s = .next { s with out := s.out ++ [⟨.ok, d⟩] } ∧
    d.extractLsb' 0 8 = 0x01#8 ∧ d.extractLsb' 8 8 = rpm.extractLsb' 0 8 ∧ d.extractLsb' 16 8 = rpm.extractLsb' 8 8 ∧
    d.extractLsb' 24 8 = crc8 [0x01#8, rpm.extractLsb' 0 8, rpm.extractLsb' 8 8] ∧
    ∃ c : Byte, encode (.setspeed rpm c) = .wire4 d ∧ (Instr.setspeed rpm c).wf = true) ∧
  (∀ rpm : Half, decode (.cmd32 (0x21000000#32 ||| rpm.setWidth 32)) = .ok (.encSpd rpm)) ∧ TakesHalf 0x21#8 ∧
  (∀ s : State, exec (.encSpd 0#16) s = .next { s with out := s.out ++ [⟨.ok, 0x6B000001#32⟩] } ∧
    exec (.encSpd 65535#16) s = .next { s with out := s.out ++ [⟨.ok, 0x4FFFFF01#32⟩] } ∧
    exec (.encSpd 255#16) s = .next { s with out := s.out ++ [⟨.ok, 0xBC00FF01#32⟩] } ∧
    exec (.encSpd 256#16) s = .next { s with out := s.out ++ [⟨.ok, 0x6C010001#32⟩] } ∧
    exec (.encSpd 1000#16) s = .next { s with out := s.out ++ [⟨.ok, 0x8903E801#32⟩] })

/-- `ENC.TRQ` (R124): always OK 0xD6000002; no register changes. -/
def Obligations.EncTrqBuildsTheConstantFrame : Prop :=
  (∀ s : State, exec .encTrq s = .next { s with out := s.out ++ [⟨.ok, 0xD6000002#32⟩] }) ∧
  decode (.cmd32 0x22000000#32) = .ok .encTrq ∧ TakesNoOperand 0x22#8 ∧
  cmdframe 0x02#8 0x0000#16 = [0x02#8, 0x00#8, 0x00#8, 0xD6#8]

/-- `RX.CLR` (R126): only `RXN` is written, from any value, the overflow value 9 as well. -/
def Obligations.RxClrEmptiesTheBuffer : Prop :=
  (∀ s : State, exec .rxClr s = .next { s with rxn := 0#4, out := s.out ++ [⟨.ok, 0#32⟩] }) ∧
  decode (.cmd32 0x30000000#32) = .ok .rxClr ∧ TakesNoOperand 0x30#8

/-- `RX.PUSH b` with room (R127): the byte goes to `RXB[RXN]`, `RXN` counts it, the answer is the new `RXN`. -/
def Obligations.RxPushStoresOneByte : Prop :=
  (∀ (s : State) (b : Byte), s.rxn.toNat < 8 → ∃ x : Vector Byte 8,
    (∀ k : Fin 8, x[k] = if k.val = s.rxn.toNat then b else s.rxb[k]) ∧
    exec (.rxPush b) s = .next { s with
      rxb := x, rxn := s.rxn + 1#4, out := s.out ++ [⟨.ok, BitVec.ofNat 32 (s.rxn.toNat + 1)⟩] } ∧
    (s.rxn + 1#4).toNat = s.rxn.toNat + 1) ∧
  (∀ b : Byte, decode (.cmd32 (0x31000000#32 ||| b.setWidth 32)) = .ok (.rxPush b)) ∧ TakesByte 0x31#8 ∧
  (∀ s : State, s.rxn = 0#4 → ∃ t : State, exec (.rxPush 0xF4#8) s = .next t ∧ t.rxb[0] = 0xF4#8 ∧ t.rxn = 1#4 ∧
    t.out = s.out ++ [⟨.ok, 0x00000001#32⟩])

/-- `RX.PUSH b` when full (R128): the byte is dropped, `RXN` becomes 9, and the next `DEC` answers INCOMPLETE. -/
def Obligations.RxPushWhenFullDropsTheByte : Prop :=
  ∀ (s : State) (b : Byte), 8 ≤ s.rxn.toNat → ∃ t : State, exec (.rxPush b) s = .next t ∧
    t = { s with rxn := 9#4, out := s.out ++ [⟨.rxFull, 9#32⟩] } ∧
    exec .dec t = .next { t with
      rxn := 0#4, outcome := .incomplete, snew := false, out := t.out ++ [⟨.incomplete, 9#32⟩] }

/-- `DEC` (R132): the length test, then the checksum test, then the fields; the buffer is consumed in every legal case. -/
def Obligations.DecTestsLengthThenChecksum : Prop :=
  (∀ s : State, s.rxn ≠ 8#4 → exec .dec s = .next { s with
    rxn := 0#4, outcome := .incomplete, snew := false, out := s.out ++ [⟨.incomplete, s.rxn.setWidth 32⟩] }) ∧
  (∀ (s : State) (expected : Byte), s.rxn = 8#4 →
    crc8 [s.rxb[0], s.rxb[1], s.rxb[2], s.rxb[3], s.rxb[4], s.rxb[5], s.rxb[6]] = expected → expected ≠ s.rxb[7] →
    exec .dec s = .next { s with
      rxn := 0#4, outcome := .ckMismatch, snew := false,
      out := s.out ++ [⟨.ckMismatch, (expected.setWidth 32 <<< 8) ||| (s.rxb[7]).setWidth 32⟩] }) ∧
  (∀ s : State, s.rxn = 8#4 →
    crc8 [s.rxb[0], s.rxb[1], s.rxb[2], s.rxb[3], s.rxb[4], s.rxb[5], s.rxb[6]] = s.rxb[7] →
    exec .dec s = .next { s with
      rxn := 0#4, duty := le16 s.rxb[0] s.rxb[1], ref := le16 s.rxb[2] s.rxb[3], avg := le16 s.rxb[4] s.rxb[5],
      mstate := s.rxb[6], outcome := .valid, snew := true, out := s.out ++ [⟨.ok, 0#32⟩] }) ∧
  decode (.cmd32 0x32000000#32) = .ok .dec ∧ TakesNoOperand 0x32#8

/-- `DEC`, outcome INCOMPLETE (R133): for every legal `RXN` but 8; the answer is that `RXN`; the sample registers stay and
become unreadable; `EILL` stays; an empty buffer answers INCOMPLETE 0, so a second `DEC` in a row does. -/
def Obligations.DecIncompleteHidesTheSample : Prop :=
  (∀ s : State, s.rxn.toNat ≤ 7 ∨ s.rxn.toNat = 9 → ∃ t : State, exec .dec s = .next t ∧
    t.outcome = .incomplete ∧ t.out = s.out ++ [⟨.incomplete, BitVec.ofNat 32 s.rxn.toNat⟩] ∧
    t.duty = s.duty ∧ t.ref = s.ref ∧ t.avg = s.avg ∧ t.mstate = s.mstate ∧ t.eill = s.eill ∧
    SameHistory s t ∧ SameMetric s t ∧
    (∀ f : SampleSel, exec (.smpRd f) t = .next { t with out := t.out ++ [⟨.noSample, 0#32⟩] })) ∧
  (∀ s t : State, exec .dec s = .next t → ∃ u : State, exec .dec t = .next u ∧
    u.outcome = .incomplete ∧ u.out = t.out ++ [⟨.incomplete, 0#32⟩])

/-- `DEC`, outcome CKMISMATCH (R134): both checksum bytes in the answer, the sample registers unchanged and unreadable,
`EILL` unchanged; and changing any one byte of a valid frame gives this outcome. -/
def Obligations.DecMismatchSeesEverySingleByteChange : Prop :=
  (∀ s : State, s.rxn = 8#4 → crc8 [s.rxb[0], s.rxb[1], s.rxb[2], s.rxb[3], s.rxb[4], s.rxb[5], s.rxb[6]] ≠ s.rxb[7] →
    ∃ (t : State) (d : Word), exec .dec s = .next t ∧
      t = { s with rxn := 0#4, outcome := .ckMismatch, snew := false, out := s.out ++ [⟨.ckMismatch, d⟩] } ∧
      d.extractLsb' 8 8 = crc8 [s.rxb[0], s.rxb[1], s.rxb[2], s.rxb[3], s.rxb[4], s.rxb[5], s.rxb[6]] ∧
      d.extractLsb' 0 8 = s.rxb[7] ∧ d.extractLsb' 16 16 = 0#16 ∧
      (∀ f : SampleSel, exec (.smpRd f) t = .next { t with out := t.out ++ [⟨.noSample, 0#32⟩] })) ∧
  (∀ (s : State) (k : Fin 8) (v : Byte), s.rxn = 8#4 →
    crc8 [s.rxb[0], s.rxb[1], s.rxb[2], s.rxb[3], s.rxb[4], s.rxb[5], s.rxb[6]] = s.rxb[7] → v ≠ s.rxb[k] →
    ∃ t : State, exec .dec { s with rxb := s.rxb.set k v } = .next t ∧ t.outcome = .ckMismatch) ∧
  (∃ s t : State, s.rxb = #v[0xF4#8, 0x01#8, 0x64#8, 0x00#8, 0x96#8, 0x00#8, 0x06#8, 0x04#8] ∧ s.rxn = 8#4 ∧
    exec .dec { s with rxb := (s.rxb.set 0 0x00#8).set 7 0xCC#8 } = .next t ∧ t.outcome = .valid)

/-- `DEC`, outcome VALID (R135): the four registers together, `SNEW` set, an earlier sample overwritten; eight zero bytes
are a valid frame; the rule's example. -/
def Obligations.DecValidLoadsTheSample : Prop :=
  (∀ s : State, s.rxn = 8#4 → crc8 [s.rxb[0], s.rxb[1], s.rxb[2], s.rxb[3], s.rxb[4], s.rxb[5], s.rxb[6]] = s.rxb[7] →
    ∃ t : State, exec .dec s = .next t ∧ t.outcome = .valid ∧ t.snew = true ∧
      t.duty.toNat = (s.rxb[0]).toNat + 256 * (s.rxb[1]).toNat ∧ t.ref.toNat = (s.rxb[2]).toNat + 256 * (s.rxb[3]).toNat ∧
      t.avg.toNat = (s.rxb[4]).toNat + 256 * (s.rxb[5]).toNat ∧ t.mstate = s.rxb[6] ∧
      t.out = s.out ++ [⟨.ok, 0#32⟩]) ∧
  (∀ s : State, s.rxn = 8#4 → s.rxb = Vector.replicate 8 0x00#8 → ∃ t : State, exec .dec s = .next t ∧
    t.outcome = .valid ∧ t.duty = 0#16 ∧ t.ref = 0#16 ∧ t.avg = 0#16 ∧ t.mstate = 0#8) ∧
  (∀ s : State, s.rxn = 8#4 → s.rxb = #v[0xF4#8, 0x01#8, 0x64#8, 0x00#8, 0x96#8, 0x00#8, 0x06#8, 0x04#8] →
    ∃ t : State, exec .dec s = .next t ∧ t.duty = 500#16 ∧ t.ref = 100#16 ∧ t.avg = 150#16 ∧ t.mstate = 6#8 ∧
      t.outcome = .valid ∧ t.snew = true ∧ t.out = s.out ++ [⟨.ok, 0#32⟩])

/-- A whole exchange (R130): bytes of any number, pushed after `RX.CLR` and decoded, are INCOMPLETE unless they are
eight, whatever their checksums, then CKMISMATCH unless the eighth is the checksum of the seven before it, then the
sample; in every case the rest of the block is as before. -/
def Obligations.ReceivedFrameDecodes : Prop :=
  ∀ (bytes : List Byte) (s : State) (rest : List Input),
    s.port = command 0x30000000#32 :: (bytes.map (fun b => command (0x31000000#32 ||| b.setWidth 32)) ++
      command 0x32000000#32 :: rest) →
    ∃ t : State, RunsTo (bytes.length + 2) s t ∧ t.port = rest ∧ t.rxn = 0#4 ∧ t.crc = s.crc ∧ SameHistory s t ∧
      SameMetric s t ∧ t.eill = s.eill ∧
      (bytes.length ≠ 8 → t.outcome = .incomplete ∧ t.snew = false ∧ t.duty = s.duty ∧ t.ref = s.ref ∧ t.avg = s.avg ∧
        t.mstate = s.mstate ∧ t.out.getLast? = some ⟨.incomplete, BitVec.ofNat 32 (min bytes.length 9)⟩) ∧
      (∀ p : List Byte, ∀ c : Byte, p.length = 7 → bytes = p ++ [c] →
        (crc8 p ≠ c → t.outcome = .ckMismatch ∧ t.snew = false ∧ t.duty = s.duty ∧ t.ref = s.ref ∧ t.avg = s.avg ∧
          t.mstate = s.mstate ∧
          t.out.getLast? = some ⟨.ckMismatch, ((crc8 p).setWidth 32 <<< 8) ||| c.setWidth 32⟩) ∧
        (crc8 p = c → t.outcome = .valid ∧ t.snew = true ∧ t.out.getLast? = some ⟨.ok, 0#32⟩ ∧
          p = [loByte t.duty, hiByte t.duty, loByte t.ref, hiByte t.ref, loByte t.avg, hiByte t.avg, t.mstate]))

/-- The pure function `decode` of R129 in its own words: not eight bytes, a wrong eighth byte, or the four fields. -/
def Obligations.DecodeFunctionResults : Prop :=
  (∀ bytes : List Byte, bytes.length ≠ 8 → decodeFrame bytes = .incomplete) ∧
  (∀ (p : List Byte) (c : Byte), p.length = 7 → crc8 p ≠ c → decodeFrame (p ++ [c]) = .checksumMismatch (crc8 p) c) ∧
  (∀ b0 b1 b2 b3 b4 b5 b6 c : Byte, crc8 [b0, b1, b2, b3, b4, b5, b6] = c →
    decodeFrame [b0, b1, b2, b3, b4, b5, b6, c] = .sample (le16 b0 b1) (le16 b2 b3) (le16 b4 b5) b6)

/-- `SMP.RD f` (R136) and its selector 4 (R137): NOSAMPLE unless the last decode validated a frame, else the field; no
register changes. -/
def Obligations.SmpRdReadsOnlyAValidatedSample : Prop :=
  (∀ (s : State) (f : SampleSel), s.outcome ≠ .valid →
    exec (.smpRd f) s = .next { s with out := s.out ++ [⟨.noSample, 0#32⟩] }) ∧
  (∀ s : State, s.outcome = .valid →
    exec (.smpRd .duty) s = .next { s with out := s.out ++ [⟨.ok, s.duty.setWidth 32⟩] } ∧
    exec (.smpRd .ref) s = .next { s with out := s.out ++ [⟨.ok, s.ref.setWidth 32⟩] } ∧
    exec (.smpRd .avg) s = .next { s with out := s.out ++ [⟨.ok, s.avg.setWidth 32⟩] } ∧
    exec (.smpRd .mstate) s = .next { s with out := s.out ++ [⟨.ok, s.mstate.setWidth 32⟩] } ∧
    ∃ d : Word, exec (.smpRd .motorClass) s = .next { s with out := s.out ++ [⟨.ok, d⟩] } ∧
      d.extractLsb' 0 4 = classify s.mstate ∧ d.extractLsb' 4 4 = 0#4 ∧ d.extractLsb' 8 8 = s.mstate ∧
      d.extractLsb' 16 16 = 0#16) ∧
  decode (.cmd32 0x33000000#32) = .ok (.smpRd .duty) ∧ decode (.cmd32 0x33000001#32) = .ok (.smpRd .ref) ∧
  decode (.cmd32 0x33000002#32) = .ok (.smpRd .avg) ∧ decode (.cmd32 0x33000003#32) = .ok (.smpRd .mstate) ∧
  decode (.cmd32 0x33000004#32) = .ok (.smpRd .motorClass) ∧ TakesSelector 0x33#8

/-- Unknown motor-state codes (R142): a code outside the table, and 99 is outside every admissible table, is no failure:
its frame decodes VALID, selector 3 answers the code, selector 4 the code and class 15; and no code ever has a class
index of 12, 13 or 14 (R140, R141). -/
def Obligations.UnknownMotorStateIsNoFailure : Prop :=
  mstTable 99#8 = none ∧ classify 99#8 = 15#4 ∧
  (∀ (s : State) (code : Byte), mstTable code = none → s.outcome = .valid → s.mstate = code →
    exec (.smpRd .mstate) s = .next { s with out := s.out ++ [⟨.ok, code.setWidth 32⟩] } ∧
    exec (.smpRd .motorClass) s = .next { s with out := s.out ++ [⟨.ok, (code.setWidth 32 <<< 8) ||| 15#32⟩] }) ∧
  (∀ s : State, s.outcome = .valid → s.mstate = 99#8 →
    exec (.smpRd .motorClass) s = .next { s with out := s.out ++ [⟨.ok, 0x0000630F#32⟩] }) ∧
  (∀ s : State, s.rxn = 8#4 → crc8 [s.rxb[0], s.rxb[1], s.rxb[2], s.rxb[3], s.rxb[4], s.rxb[5], s.rxb[6]] = s.rxb[7] →
    mstTable s.rxb[6] = none → ∃ t : State, exec .dec s = .next t ∧ t.outcome = .valid ∧ t.mstate = s.rxb[6]) ∧
  (∀ code : Byte, (classify code).toNat ≤ 11 ∨ classify code = 15#4)

/-- The sample registers are written only by a `DEC` that validates, all four together, or by reset (R29); a `DEC` that
does not validate leaves them and makes them unreadable. -/
def Obligations.SampleRegistersHoldOnlyValidatedFrames : Prop :=
  (∀ (i : Instr) (s t : State), IsOperation i → exec i s = .next t → i ≠ .sysRst →
    ¬ (t.duty = s.duty ∧ t.ref = s.ref ∧ t.avg = s.avg ∧ t.mstate = s.mstate) →
    i = .dec ∧ t.outcome = .valid ∧ crc8 [s.rxb[0], s.rxb[1], s.rxb[2], s.rxb[3], s.rxb[4], s.rxb[5], s.rxb[6]] = s.rxb[7] ∧
      t.duty = le16 s.rxb[0] s.rxb[1] ∧ t.ref = le16 s.rxb[2] s.rxb[3] ∧ t.avg = le16 s.rxb[4] s.rxb[5] ∧
      t.mstate = s.rxb[6]) ∧
  (∀ s t : State, exec .dec s = .next t → t.outcome ≠ .valid →
    t.duty = s.duty ∧ t.ref = s.ref ∧ t.avg = s.avg ∧ t.mstate = s.mstate ∧
    ∀ f : SampleSel, exec (.smpRd f) t = .next { t with out := t.out ++ [⟨.noSample, 0#32⟩] })

/-- A decode that fails is invisible to the history and the metric, and the `SMP.ACC` after it answers NOSAMPLE and
changes nothing (R194, which the spec marks as derived). -/
def Obligations.FailedDecodeIsInvisible : Prop :=
  ∀ s t : State, exec .dec s = .next t → t.outcome ≠ .valid →
    SameHistory s t ∧ SameMetric s t ∧ t.rxn = 0#4 ∧ t.crc = s.crc ∧ t.eill = s.eill ∧
    exec .smpAcc t = .next { t with out := t.out ++ [⟨.noSample, 0#32⟩] }

/-! ### The wire frames -/

/-- The model's choice (logs 4, 5): the two command frames leave for the controller, their bytes in frame order, and change
no register; a TelemetryRequest frame is the constant `02 00 00 D6`, a SetSpeed frame carries its own checksum byte. -/
def Obligations.CommandFramesOnlyGoOnTheLink : Prop :=
  (∀ (s : State) (rpm : Half) (c : Byte), exec (.setspeed rpm c) s = .next { s with
    sent := s.sent ++ [0x01#8, rpm.extractLsb' 0 8, rpm.extractLsb' 8 8, c] }) ∧
  (∀ s : State, exec .telemreq s = .next { s with sent := s.sent ++ [0x02#8, 0x00#8, 0x00#8, 0xD6#8] })

/-- The model's choice (log 4): one step on a telemetry frame is exactly the nine operations it stands for, `RX.PUSH` of
its eight bytes in wire order and then `DEC`, with their nine responses. -/
def Obligations.TelemetryFrameIsNineOperations : Prop :=
  ∀ (s : State) (duty ref avg : Half) (mstate c : Byte) (rest : List Input),
    s.port = [loByte duty, hiByte duty, loByte ref, hiByte ref, loByte avg, hiByte avg, mstate, c].map
      (fun b => command (0x31000000#32 ||| b.setWidth 32)) ++ command 0x32000000#32 :: rest →
    ∃ t : State, exec (.telemetry duty ref avg mstate c) { s with port := rest } = .next t ∧ RunsTo 9 s t

/-- Round trip of the fields (90_conflicts.md C4, and logs 4, 5): a well-formed telemetry frame met with an empty buffer
validates, and its four fields are the sample; one with another checksum byte is a mismatch; met with a buffer that holds
bytes already it is INCOMPLETE. In every case nothing but the buffer, the decode result and the sample changes. -/
def Obligations.TelemetryFrameRoundTrip : Prop :=
  ∀ (s : State) (duty ref avg : Half) (mstate c : Byte), ∃ t : State,
    exec (.telemetry duty ref avg mstate c) s = .next t ∧ t.rxn = 0#4 ∧ t.crc = s.crc ∧ SameHistory s t ∧
    SameMetric s t ∧ t.eill = s.eill ∧ t.port = s.port ∧ t.sent = s.sent ∧
    (s.rxn = 0#4 → (Instr.telemetry duty ref avg mstate c).wf = true → t.outcome = .valid ∧ t.snew = true ∧
      t.duty = duty ∧ t.ref = ref ∧ t.avg = avg ∧ t.mstate = mstate) ∧
    (s.rxn = 0#4 → (Instr.telemetry duty ref avg mstate c).wf = false → t.outcome = .ckMismatch ∧ t.snew = false ∧
      t.duty = s.duty ∧ t.ref = s.ref ∧ t.avg = s.avg ∧ t.mstate = s.mstate) ∧
    (s.rxn ≠ 0#4 → t.outcome = .incomplete ∧ t.snew = false ∧
      t.duty = s.duty ∧ t.ref = s.ref ∧ t.avg = s.avg ∧ t.mstate = s.mstate)

/-! ### The Sample History -/

/-- Pushes (R34): any values pushed one after another onto a history leave the last 50 of it and them, in order; and
`H` changes in no other way but by reset. -/
def Obligations.HistoryKeepsTheLastFifty : Prop :=
  (∀ (vs : List Half) (s : State) (rest : List Input), s.Inv →
    s.port = vs.map (fun v => command (0x41000000#32 ||| v.setWidth 32)) ++ rest →
    ∃ t : State, RunsTo vs.length s t ∧ t.port = rest ∧
      t.h = (s.h ++ vs).drop ((s.h ++ vs).length - 50) ∧ t.hcnt.toNat = min 50 (s.h ++ vs).length ∧
      t.sum.toNat = (t.h.map BitVec.toNat).sum) ∧
  (∀ (i : Instr) (s t : State), s.Inv → exec i s = .next t →
    t.h = s.h ∨ i = .sysRst ∨
    (∃ v : Half, (i = .hsPush v ∨ (i = .smpAcc ∧ v = s.avg)) ∧
      t.h = if s.hcnt.toNat < 50 then s.h ++ [v] else s.h.drop 1 ++ [v]))

/-- `HS.PUSH v` (R161), from states that meet the invariant: append with eviction, `HCNT`, `SUM`, `MVALID` cleared, the
answer is the new `HCNT`, and nothing else changes. -/
def Obligations.HsPushAppendsAndInvalidates : Prop :=
  (∀ (s : State) (v : Half), s.Inv → ∃ t : State, exec (.hsPush v) s = .next t ∧
    t.h = (if s.hcnt.toNat < 50 then s.h else s.h.drop 1) ++ [v] ∧ t.hcnt.toNat = min (s.hcnt.toNat + 1) 50 ∧
    (t.sum.toNat : Int) = s.sum.toNat + v.toNat - (if s.hcnt.toNat < 50 then 0 else (s.h.headD 0#16).toNat) ∧
    t.mvalid = false ∧ t.out = s.out ++ [⟨.ok, t.hcnt.setWidth 32⟩] ∧
    t.crc = s.crc ∧ SameBuffer s t ∧ SameSample s t ∧ t.devn = s.devn ∧ t.pctm = s.pctm ∧ t.pctr = s.pctr ∧
    t.eill = s.eill ∧ t.port = s.port ∧ t.sent = s.sent) ∧
  (∀ v : Half, decode (.cmd32 (0x41000000#32 ||| v.setWidth 32)) = .ok (.hsPush v)) ∧ TakesHalf 0x41#8 ∧
  (∃ t : State, exec (.hsPush 100#16) State.reset = .next t ∧ t.h = [100#16] ∧ t.hcnt = 1#6 ∧ t.sum = 100#22 ∧
    t.out = [⟨.ok, 0x00000001#32⟩])

/-- `SMP.ACC` (R160), from states that meet the invariant: with no validated, new sample it changes nothing; else it
appends `AVG`, clears `SNEW`, and computes the metric on the history that includes it, against `REF`. -/
def Obligations.SmpAccAppendsOnceAndComputes : Prop :=
  (∀ s : State, ¬ (s.outcome = .valid ∧ s.snew = true) →
    exec .smpAcc s = .next { s with out := s.out ++ [⟨.noSample, 0#32⟩] }) ∧
  (∀ s : State, s.Inv → s.outcome = .valid → s.snew = true → ∃ t : State, exec .smpAcc s = .next t ∧
    t.h = (if s.hcnt.toNat < 50 then s.h else s.h.drop 1) ++ [s.avg] ∧ t.hcnt.toNat = min (s.hcnt.toNat + 1) 50 ∧
    t.sum.toNat = histSum t.h ∧ t.snew = false ∧
    (10 ≤ t.hcnt.toNat → t.mvalid = true ∧ t.devn.toNat = devn t.h ∧ t.pctm.toNat = pctm t.h ∧
      t.pctr.toNat = pctr t.h s.ref ∧ t.out = s.out ++ [⟨.ok, t.hcnt.setWidth 32⟩]) ∧
    (t.hcnt.toNat < 10 → t.mvalid = false ∧ t.devn = s.devn ∧ t.pctm = s.pctm ∧ t.pctr = s.pctr ∧
      t.out = s.out ++ [⟨.noMetric, t.hcnt.setWidth 32⟩]) ∧
    t.crc = s.crc ∧ SameBuffer s t ∧ t.outcome = s.outcome ∧ t.duty = s.duty ∧ t.ref = s.ref ∧ t.avg = s.avg ∧
    t.mstate = s.mstate ∧ t.eill = s.eill ∧ t.port = s.port ∧ t.sent = s.sent ∧
    exec .smpAcc t = .next { t with out := t.out ++ [⟨.noSample, 0#32⟩] }) ∧
  decode (.cmd32 0x40000000#32) = .ok .smpAcc ∧ TakesNoOperand 0x40#8 ∧
  (∀ s : State, s.Inv → s.outcome = .valid → s.snew = true → s.h = List.replicate 9 100#16 → s.avg = 150#16 →
    s.ref = 100#16 → ∃ t : State, exec .smpAcc s = .next t ∧ t.hcnt = 10#6 ∧ t.sum = 1050#22 ∧ t.devn = 450#22 ∧
      t.pctm = 4286#32 ∧ t.pctr = 4500#32 ∧ t.mvalid = true ∧ t.out = s.out ++ [⟨.ok, 0x0000000A#32⟩])

/-- `HS.MET ref` (R162), from states that meet the invariant: the metric against `ref`, or none below ten entries; the
history and the sample stay; repeating it with another reference changes `PCTR` only. -/
def Obligations.HsMetComputesAgainstTheReference : Prop :=
  (∀ (s : State) (r : Half), s.Inv → 10 ≤ s.hcnt.toNat → ∃ (dv : BitVec 22) (pm pr : Word),
    exec (.hsMet r) s = .next { s with
      devn := dv, pctm := pm, pctr := pr, mvalid := true, out := s.out ++ [⟨.ok, s.hcnt.setWidth 32⟩] } ∧
    dv.toNat = devn s.h ∧ pm.toNat = pctm s.h ∧ pr.toNat = pctr s.h r ∧ (r = 0#16 → pr = 0#32)) ∧
  (∀ (s : State) (r : Half), s.hcnt.toNat < 10 → exec (.hsMet r) s = .next { s with
    mvalid := false, out := s.out ++ [⟨.noMetric, s.hcnt.setWidth 32⟩] }) ∧
  (∀ (s t u : State) (r r' : Half), exec (.hsMet r) s = .next t → exec (.hsMet r') t = .next u →
    u = { t with pctr := u.pctr, out := u.out }) ∧
  (∀ r : Half, decode (.cmd32 (0x42000000#32 ||| r.setWidth 32)) = .ok (.hsMet r)) ∧ TakesHalf 0x42#8 ∧
  (∀ s : State, s.Inv → s.h = List.replicate 9 100#16 ++ [150#16] → ∃ t : State, exec (.hsMet 100#16) s = .next t ∧
    t.devn = 450#22 ∧ t.pctm = 4286#32 ∧ t.pctr = 4500#32 ∧ t.mvalid = true ∧ t.out = s.out ++ [⟨.ok, 0x0000000A#32⟩])

/-- `HS.RD i` (R166): the entry at `i`, oldest first, or RANGE from `HCNT` on; no register changes; the rule's example as
a run of 51 pushes and three reads. -/
def Obligations.HsRdReadsOldestFirst : Prop :=
  (∀ (s : State) (i v : Half), i.toNat < s.hcnt.toNat → s.h[i.toNat]? = some v →
    exec (.hsRd i) s = .next { s with out := s.out ++ [⟨.ok, v.setWidth 32⟩] }) ∧
  (∀ (s : State) (i : Half), s.Inv → i.toNat < s.hcnt.toNat → ∃ v : Half, s.h[i.toNat]? = some v) ∧
  (∀ (s : State) (i : Half), s.hcnt.toNat ≤ i.toNat →
    exec (.hsRd i) s = .next { s with out := s.out ++ [⟨.range, 0#32⟩] }) ∧
  (∀ i : Half, decode (.cmd32 (0x43000000#32 ||| i.setWidth 32)) = .ok (.hsRd i)) ∧ TakesHalf 0x43#8 ∧
  (∃ t : State, RunsTo 54 { State.reset with
      port := (List.range' 1 51).map (fun n => command (0x41000000#32 + BitVec.ofNat 32 n)) ++
        [command 0x43000000#32, command 0x43000031#32, command 0x43000032#32] } t ∧
    t.out.drop 51 = [⟨.ok, 0x00000002#32⟩, ⟨.ok, 0x00000033#32⟩, ⟨.range, 0#32⟩])

/-- `MET.RD f` (R167): the metric only while `MVALID = 1`, `SUM` and `HCNT` always; no register changes. From states that
meet the invariant the registers give the source's mean and greatest deviation exactly: `mean = SUM / HCNT`,
`max_dev = DEVN / HCNT`. The rule's example as a run. -/
def Obligations.MetRdReadsAMetricOnlyWhileValid : Prop :=
  (∀ s : State, s.mvalid = true →
    exec (.metRd .pctm) s = .next { s with out := s.out ++ [⟨.ok, s.pctm⟩] } ∧
    exec (.metRd .pctr) s = .next { s with out := s.out ++ [⟨.ok, s.pctr⟩] } ∧
    exec (.metRd .devn) s = .next { s with out := s.out ++ [⟨.ok, s.devn.setWidth 32⟩] }) ∧
  (∀ (s : State) (f : MetricSel), s.mvalid = false → f = .pctm ∨ f = .pctr ∨ f = .devn →
    exec (.metRd f) s = .next { s with out := s.out ++ [⟨.noMetric, 0#32⟩] }) ∧
  (∀ s : State, exec (.metRd .sum) s = .next { s with out := s.out ++ [⟨.ok, s.sum.setWidth 32⟩] } ∧
    exec (.metRd .hcnt) s = .next { s with out := s.out ++ [⟨.ok, s.hcnt.setWidth 32⟩] }) ∧
  (∀ s : State, s.Inv → 0 < s.hcnt.toNat →
    (s.sum.toNat : ℚ) / s.hcnt.toNat = ((s.h.map (fun x => (x.toNat : ℚ))).sum) / s.h.length ∧
    (s.mvalid = true →
      (∀ x ∈ s.h, |(x.toNat : ℚ) - s.sum.toNat / s.hcnt.toNat| ≤ s.devn.toNat / s.hcnt.toNat) ∧
      ∃ x ∈ s.h, |(x.toNat : ℚ) - s.sum.toNat / s.hcnt.toNat| = s.devn.toNat / s.hcnt.toNat)) ∧
  decode (.cmd32 0x44000000#32) = .ok (.metRd .pctm) ∧ decode (.cmd32 0x44000001#32) = .ok (.metRd .pctr) ∧
  decode (.cmd32 0x44000002#32) = .ok (.metRd .devn) ∧ decode (.cmd32 0x44000003#32) = .ok (.metRd .sum) ∧
  decode (.cmd32 0x44000004#32) = .ok (.metRd .hcnt) ∧ TakesSelector 0x44#8 ∧
  (∃ t : State, RunsTo 16 { State.reset with
      port := List.replicate 9 (command 0x41000064#32) ++ [command 0x41000096#32, command 0x42000064#32] ++
        [0x44000000#32, 0x44000001#32, 0x44000002#32, 0x44000003#32, 0x44000004#32].map command } t ∧
    t.out.drop 11 = [⟨.ok, 0x000010BE#32⟩, ⟨.ok, 0x00001194#32⟩, ⟨.ok, 0x000001C2#32⟩, ⟨.ok, 0x0000041A#32⟩,
      ⟨.ok, 0x0000000A#32⟩])

/-- `SMP.ACC` on a validated, new sample is `HS.PUSH AVG` then `HS.MET REF`, and clears `SNEW` (R163, which the spec marks
as derived). -/
def Obligations.SmpAccIsPushThenMetric : Prop :=
  ∀ s : State, s.outcome = .valid → s.snew = true → ∃ t u v : State,
    exec .smpAcc s = .next t ∧ exec (.hsPush s.avg) s = .next u ∧ exec (.hsMet s.ref) u = .next v ∧
    SameHistory v t ∧ SameMetric v t ∧ t.snew = false ∧ v.snew = true

/-- Any metric a host reads, by selector 0, 1 or 2 of `MET.RD`, is over ten entries or more and is the metric of the
present history, for `PCTR` against some reference: it is never stale (R37, R46 (e), which the spec marks as derived),
from states that meet the invariant. -/
def Obligations.MetricIsNeverStale : Prop :=
  ∀ s t : State, s.Inv → step s = .next t → ∀ (u : State) (d : Word), u.out = t.out ++ [⟨.ok, d⟩] →
    (exec (.metRd .pctm) t = .next u → 10 ≤ t.h.length ∧ d.toNat = pctm t.h) ∧
    (exec (.metRd .pctr) t = .next u → 10 ≤ t.h.length ∧ ∃ r : Half, d.toNat = pctr t.h r) ∧
    (exec (.metRd .devn) t = .next u → 10 ≤ t.h.length ∧ d.toNat = devn t.h)

/-! ### The arithmetic of the metric -/

/-- `rnd(p, q) = (2 * p + q) div (2 * q)` (R155) is the integer nearest to `p / q`, an exact half upward, and its intermediate values stay below
2^36 over the block's range. -/
def Obligations.RndRoundsToNearestHalfUp : Prop :=
  (∀ p q : Nat, 0 < q → rnd p q = (2 * p + q) / (2 * q)) ∧
  (∀ p q : Nat, 0 < q → 2 * q * rnd p q ≤ 2 * p + q ∧ 2 * p + q < 2 * q * (rnd p q + 1)) ∧
  (∀ q k : Nat, 0 < q → rnd (2 * q * k + q) (2 * q) = k + 1) ∧
  (∀ (h : List Half) (q : Nat), h.length ≤ 50 → q ≤ 50 * 65535 → 2 * (10000 * devn h) + q < 2 ^ 36)

/-- `devn(h)` (R153, which the spec marks as derived) is the greatest of `|n * hi - sum|`, is attained by the greatest or
the least entry, and is at most `(n - 1) * 65535` and at most `(n - 1) * sum`. -/
def Obligations.DevnIsTheGreatestDeviation : Prop :=
  (∀ (h : List Half) (x : Half), x ∈ h → ((h.length : Int) * x.toNat - histSum h).natAbs ≤ devn h) ∧
  (∀ h : List Half, h ≠ [] → ∃ x ∈ h, devn h = ((h.length : Int) * x.toNat - histSum h).natAbs) ∧
  (∀ (h : List Half) (hi lo : Half), hi ∈ h → lo ∈ h → (∀ x ∈ h, lo.toNat ≤ x.toNat ∧ x.toNat ≤ hi.toNat) →
    devn h = max (h.length * hi.toNat - histSum h) (histSum h - h.length * lo.toNat)) ∧
  (∀ h : List Half, devn h ≤ (h.length - 1) * 65535 ∧ devn h ≤ (h.length - 1) * histSum h)

/-- `pctm(h)` (R156): the formula, its range over 1 to 50 entries, and the source's example. -/
def Obligations.PctmFormulaAndRange : Prop :=
  (∀ h : List Half, 0 < (h.map BitVec.toNat).sum →
    pctm h = rnd (10000 * devn h) (h.map BitVec.toNat).sum) ∧
  (∀ h : List Half, (h.map BitVec.toNat).sum = 0 → pctm h = 0) ∧
  (∀ h : List Half, h.length ≤ 50 → pctm h ≤ 490000) ∧
  histSum (List.replicate 9 100#16 ++ [150#16]) = 1050 ∧ devn (List.replicate 9 100#16 ++ [150#16]) = 450 ∧
  pctm (List.replicate 9 100#16 ++ [150#16]) = 4286

/-- `pctr(h, r)` (R157): the formula, its range over 1 to 50 entries, that the end of the range is attained, and the
source's example. -/
def Obligations.PctrFormulaAndRange : Prop :=
  (∀ (h : List Half) (r : Half), 0 < r.toNat → pctr h r = rnd (10000 * devn h) (h.length * r.toNat)) ∧
  (∀ h : List Half, pctr h 0#16 = 0) ∧
  (∀ (h : List Half) (r : Half), h.length ≤ 50 → pctr h r ≤ 642243000) ∧
  pctr (List.replicate 49 0#16 ++ [65535#16]) 1#16 = 642243000 ∧ pctr (List.replicate 9 100#16 ++ [150#16]) 100#16 = 4500

/-- The fixed-point values are within 0.005 of the exact percentages (R158, R154, which the spec marks as derived). -/
def Obligations.PercentagesAreCorrectlyRounded : Prop :=
  ∀ (h : List Half) (r : Half), h ≠ [] →
    |((pctm h : ℚ) / 100) - exactPctMean h| ≤ 5 / 1000 ∧ |((pctr h r : ℚ) / 100) - exactPctRef h r| ≤ 5 / 1000

/-- The order of the entries does not matter (R168 (f), which the spec marks as derived). -/
def Obligations.MetricIgnoresTheOrderOfEntries : Prop :=
  ∀ (h k : List Half) (r : Half), h.Perm k →
    histSum h = histSum k ∧ devn h = devn k ∧ pctm h = pctm k ∧ pctr h r = pctr k r

/-! ### Whole-machine rules -/

/-- The reading operations change no state and repeating one gives the same answer; the encoders' answer depends on no
state at all; `DEC` empties the buffer and rewrites the decode result, so a second one answers INCOMPLETE; `SMP.ACC`
appends and clears `SNEW`, so a second one answers NOSAMPLE; `HS.MET` rewrites the metric registers, from states that
meet the invariant (below ten entries `MVALID` alone), and repeated gives the same registers again (R59). -/
def Obligations.ReadsChangeNothing : Prop :=
  (∀ s : State, OnlyAnswers .ckRd s ∧ (∀ f, OnlyAnswers (.smpRd f) s) ∧ (∀ i, OnlyAnswers (.hsRd i) s) ∧
    (∀ f, OnlyAnswers (.metRd f) s) ∧ OnlyAnswers .sysStat s) ∧
  (∀ rpm : Half, ∃ d : Word, ∀ s : State, exec (.encSpd rpm) s = .next { s with out := s.out ++ [⟨.ok, d⟩] }) ∧
  (∃ d : Word, ∀ s : State, exec .encTrq s = .next { s with out := s.out ++ [⟨.ok, d⟩] }) ∧
  (∀ s t : State, exec .dec s = .next t →
    t.rxn = 0#4 ∧
    (s.rxn ≠ 8#4 → t.outcome = .incomplete ∧ t.snew = false) ∧
    (s.rxn = 8#4 → crc8 [s.rxb[0], s.rxb[1], s.rxb[2], s.rxb[3], s.rxb[4], s.rxb[5], s.rxb[6]] ≠ s.rxb[7] →
      t.outcome = .ckMismatch ∧ t.snew = false) ∧
    (s.rxn = 8#4 → crc8 [s.rxb[0], s.rxb[1], s.rxb[2], s.rxb[3], s.rxb[4], s.rxb[5], s.rxb[6]] = s.rxb[7] →
      t.outcome = .valid ∧ t.snew = true ∧ t.duty = le16 s.rxb[0] s.rxb[1] ∧ t.ref = le16 s.rxb[2] s.rxb[3] ∧
      t.avg = le16 s.rxb[4] s.rxb[5] ∧ t.mstate = s.rxb[6]) ∧
    exec .dec t = .next { t with
      outcome := .incomplete, snew := false, out := t.out ++ [⟨.incomplete, 0#32⟩] }) ∧
  (∀ s t : State, exec .smpAcc s = .next t → s.outcome = .valid → s.snew = true →
    t.h = (if s.hcnt.toNat < 50 then s.h else s.h.drop 1) ++ [s.avg] ∧ t.snew = false ∧
    exec .smpAcc t = .next { t with out := t.out ++ [⟨.noSample, 0#32⟩] }) ∧
  (∀ (s t : State) (r : Half), s.Inv → exec (.hsMet r) s = .next t →
    (10 ≤ s.hcnt.toNat → t.mvalid = true ∧ t.devn.toNat = devn s.h ∧ t.pctm.toNat = pctm s.h ∧
      t.pctr.toNat = pctr s.h r) ∧
    (s.hcnt.toNat < 10 → t.mvalid = false ∧ t.devn = s.devn ∧ t.pctm = s.pctm ∧ t.pctr = s.pctr)) ∧
  (∀ (s t u : State) (r : Half), exec (.hsMet r) s = .next t → exec (.hsMet r) t = .next u → SameRegisters t u)

/-- `EILL` is set by every illegal command word and by nothing else, and cleared by nothing but reset (R42). -/
def Obligations.EillIsSetByIllegalOnly : Prop :=
  (∀ s t : State, step s = .next t → s.eill = false → t.eill = true →
    ∃ (w : Word) (rest : List Input), s.port = command w :: rest ∧ IllegalWord w) ∧
  (∀ s t : State, step s = .next t → s.eill = true → t.eill = false →
    ∃ (x : Input) (rest : List Input), s.port = x :: rest ∧ (x = .hardReset ∨ x = command 0x01000000#32)) ∧
  (∀ (s : State) (w : Word) (rest : List Input), IllegalWord w → s.port = command w :: rest →
    ∃ t : State, step s = .next t ∧ t.eill = true)

/-- A proof about a host can take `EILL = 0` at the end as evidence (R196): over any run of command words without a
reset among them that ends with `EILL = 0`, every word was legal. -/
def Obligations.EillZeroAtTheEndMeansEveryWordWasLegal : Prop :=
  ∀ (ws : List Word) (s t : State) (rest : List Input), s.port = ws.map command ++ rest →
    (∀ w ∈ ws, w ≠ 0x01000000#32) → RunsTo ws.length s t → t.eill = false → ∀ w ∈ ws, ¬ IllegalWord w

/-- The pseudo-operations of R92 as runs: `CK.MSG` answers the checksum of the message last; `RX.FRAME` leaves the bytes
in the buffer; after the `DEC` of `TLM.CYCLE` failed, its `SMP.ACC` answers NOSAMPLE and changes nothing, so the state is
that of the flow that issues `SMP.ACC` only after OK. -/
def Obligations.PseudoOperationsDoWhatTheyAreFor : Prop :=
  (∀ bytes : List Byte, asInputs (ckMsg bytes) = command 0x10000000#32 ::
      (bytes.map (fun b => command (0x11000000#32 ||| b.setWidth 32)) ++ [command 0x12000000#32]) ∧
    asInputs (rxFrame bytes) = command 0x30000000#32 ::
      bytes.map (fun b => command (0x31000000#32 ||| b.setWidth 32)) ∧
    asInputs (tlmCycle bytes) = command 0x30000000#32 ::
      (bytes.map (fun b => command (0x31000000#32 ||| b.setWidth 32)) ++
        [command 0x32000000#32, command 0x40000000#32])) ∧
  (∀ (bytes : List Byte) (s : State) (rest : List Input),
    s.port = command 0x10000000#32 :: (bytes.map (fun b => command (0x11000000#32 ||| b.setWidth 32)) ++
      command 0x12000000#32 :: rest) →
    ∃ t : State, RunsTo (bytes.length + 2) s t ∧ t.port = rest ∧
      t.out.getLast? = some ⟨.ok, (crc8 bytes).setWidth 32⟩ ∧ t.crc = crc8 bytes) ∧
  (∀ (bytes : List Byte) (s : State) (rest : List Input),
    s.port = command 0x30000000#32 :: (bytes.map (fun b => command (0x31000000#32 ||| b.setWidth 32)) ++ rest) →
    ∃ t : State, RunsTo (bytes.length + 1) s t ∧ t.port = rest ∧ t.rxn.toNat = min bytes.length 9 ∧
      ∀ k : Fin 8, k.val < bytes.length → bytes[k.val]? = some t.rxb[k]) ∧
  (∀ (bytes : List Byte) (s : State) (rest : List Input),
    s.port = command 0x30000000#32 :: (bytes.map (fun b => command (0x31000000#32 ||| b.setWidth 32)) ++
      command 0x32000000#32 :: command 0x40000000#32 :: rest) →
    ∃ u t : State, RunsTo (bytes.length + 2) s u ∧ RunsTo (bytes.length + 3) s t ∧ t.port = rest ∧
      (u.outcome ≠ .valid → t = { u with port := rest, out := u.out ++ [⟨.noSample, 0#32⟩] }) ∧
      (u.outcome = .valid → exec .smpAcc { u with port := rest } = .next t))
end

