-- ==== Sys2Proof/Laws/State.lean ====
section
/-! SUPPORT. The small lemmas of the state's updates: one per field per update, each true by definition. -/

namespace Sys2Proof.Machine

section respond
variable (st : Status) (d : Word) (s : State)
@[simp] theorem respond_crc : (respond st d s).crc = s.crc := rfl
@[simp] theorem respond_rxb : (respond st d s).rxb = s.rxb := rfl
@[simp] theorem respond_rxn : (respond st d s).rxn = s.rxn := rfl
@[simp] theorem respond_outcome : (respond st d s).outcome = s.outcome := rfl
@[simp] theorem respond_snew : (respond st d s).snew = s.snew := rfl
@[simp] theorem respond_duty : (respond st d s).duty = s.duty := rfl
@[simp] theorem respond_ref : (respond st d s).ref = s.ref := rfl
@[simp] theorem respond_avg : (respond st d s).avg = s.avg := rfl
@[simp] theorem respond_mstate : (respond st d s).mstate = s.mstate := rfl
@[simp] theorem respond_h : (respond st d s).h = s.h := rfl
@[simp] theorem respond_hcnt : (respond st d s).hcnt = s.hcnt := rfl
@[simp] theorem respond_sum : (respond st d s).sum = s.sum := rfl
@[simp] theorem respond_mvalid : (respond st d s).mvalid = s.mvalid := rfl
@[simp] theorem respond_devn : (respond st d s).devn = s.devn := rfl
@[simp] theorem respond_pctm : (respond st d s).pctm = s.pctm := rfl
@[simp] theorem respond_pctr : (respond st d s).pctr = s.pctr := rfl
@[simp] theorem respond_eill : (respond st d s).eill = s.eill := rfl
@[simp] theorem respond_port : (respond st d s).port = s.port := rfl
@[simp] theorem respond_out : (respond st d s).out = s.out ++ [⟨st, d⟩] := rfl
@[simp] theorem respond_sent : (respond st d s).sent = s.sent := rfl
end respond

section raiseStatus
variable (st : Status) (d : Word) (s : State)
@[simp] theorem raiseStatus_crc : (raiseStatus st d s).crc = s.crc := rfl
@[simp] theorem raiseStatus_rxb : (raiseStatus st d s).rxb = s.rxb := rfl
@[simp] theorem raiseStatus_rxn : (raiseStatus st d s).rxn = s.rxn := rfl
@[simp] theorem raiseStatus_outcome : (raiseStatus st d s).outcome = s.outcome := rfl
@[simp] theorem raiseStatus_snew : (raiseStatus st d s).snew = s.snew := rfl
@[simp] theorem raiseStatus_duty : (raiseStatus st d s).duty = s.duty := rfl
@[simp] theorem raiseStatus_ref : (raiseStatus st d s).ref = s.ref := rfl
@[simp] theorem raiseStatus_avg : (raiseStatus st d s).avg = s.avg := rfl
@[simp] theorem raiseStatus_mstate : (raiseStatus st d s).mstate = s.mstate := rfl
@[simp] theorem raiseStatus_h : (raiseStatus st d s).h = s.h := rfl
@[simp] theorem raiseStatus_hcnt : (raiseStatus st d s).hcnt = s.hcnt := rfl
@[simp] theorem raiseStatus_sum : (raiseStatus st d s).sum = s.sum := rfl
@[simp] theorem raiseStatus_mvalid : (raiseStatus st d s).mvalid = s.mvalid := rfl
@[simp] theorem raiseStatus_devn : (raiseStatus st d s).devn = s.devn := rfl
@[simp] theorem raiseStatus_pctm : (raiseStatus st d s).pctm = s.pctm := rfl
@[simp] theorem raiseStatus_pctr : (raiseStatus st d s).pctr = s.pctr := rfl
@[simp] theorem raiseStatus_eill : (raiseStatus st d s).eill = s.eill := rfl
@[simp] theorem raiseStatus_port : (raiseStatus st d s).port = s.port := rfl
@[simp] theorem raiseStatus_out : (raiseStatus st d s).out = s.out ++ [⟨st, d⟩] := rfl
@[simp] theorem raiseStatus_sent : (raiseStatus st d s).sent = s.sent := rfl
end raiseStatus

section setEill
variable (s : State)
@[simp] theorem setEill_crc : (setEill s).crc = s.crc := rfl
@[simp] theorem setEill_rxb : (setEill s).rxb = s.rxb := rfl
@[simp] theorem setEill_rxn : (setEill s).rxn = s.rxn := rfl
@[simp] theorem setEill_outcome : (setEill s).outcome = s.outcome := rfl
@[simp] theorem setEill_snew : (setEill s).snew = s.snew := rfl
@[simp] theorem setEill_duty : (setEill s).duty = s.duty := rfl
@[simp] theorem setEill_ref : (setEill s).ref = s.ref := rfl
@[simp] theorem setEill_avg : (setEill s).avg = s.avg := rfl
@[simp] theorem setEill_mstate : (setEill s).mstate = s.mstate := rfl
@[simp] theorem setEill_h : (setEill s).h = s.h := rfl
@[simp] theorem setEill_hcnt : (setEill s).hcnt = s.hcnt := rfl
@[simp] theorem setEill_sum : (setEill s).sum = s.sum := rfl
@[simp] theorem setEill_mvalid : (setEill s).mvalid = s.mvalid := rfl
@[simp] theorem setEill_devn : (setEill s).devn = s.devn := rfl
@[simp] theorem setEill_pctm : (setEill s).pctm = s.pctm := rfl
@[simp] theorem setEill_pctr : (setEill s).pctr = s.pctr := rfl
@[simp] theorem setEill_eill : (setEill s).eill = true := rfl
@[simp] theorem setEill_port : (setEill s).port = s.port := rfl
@[simp] theorem setEill_out : (setEill s).out = s.out := rfl
@[simp] theorem setEill_sent : (setEill s).sent = s.sent := rfl
end setEill

section raiseIllegal
variable (s : State)
@[simp] theorem raiseIllegal_crc : (raiseIllegal s).crc = s.crc := rfl
@[simp] theorem raiseIllegal_rxb : (raiseIllegal s).rxb = s.rxb := rfl
@[simp] theorem raiseIllegal_rxn : (raiseIllegal s).rxn = s.rxn := rfl
@[simp] theorem raiseIllegal_outcome : (raiseIllegal s).outcome = s.outcome := rfl
@[simp] theorem raiseIllegal_snew : (raiseIllegal s).snew = s.snew := rfl
@[simp] theorem raiseIllegal_duty : (raiseIllegal s).duty = s.duty := rfl
@[simp] theorem raiseIllegal_ref : (raiseIllegal s).ref = s.ref := rfl
@[simp] theorem raiseIllegal_avg : (raiseIllegal s).avg = s.avg := rfl
@[simp] theorem raiseIllegal_mstate : (raiseIllegal s).mstate = s.mstate := rfl
@[simp] theorem raiseIllegal_h : (raiseIllegal s).h = s.h := rfl
@[simp] theorem raiseIllegal_hcnt : (raiseIllegal s).hcnt = s.hcnt := rfl
@[simp] theorem raiseIllegal_sum : (raiseIllegal s).sum = s.sum := rfl
@[simp] theorem raiseIllegal_mvalid : (raiseIllegal s).mvalid = s.mvalid := rfl
@[simp] theorem raiseIllegal_devn : (raiseIllegal s).devn = s.devn := rfl
@[simp] theorem raiseIllegal_pctm : (raiseIllegal s).pctm = s.pctm := rfl
@[simp] theorem raiseIllegal_pctr : (raiseIllegal s).pctr = s.pctr := rfl
@[simp] theorem raiseIllegal_eill : (raiseIllegal s).eill = true := rfl
@[simp] theorem raiseIllegal_port : (raiseIllegal s).port = s.port := rfl
@[simp] theorem raiseIllegal_out : (raiseIllegal s).out = s.out ++ [⟨.illegal, 0#32⟩] := rfl
@[simp] theorem raiseIllegal_sent : (raiseIllegal s).sent = s.sent := rfl
end raiseIllegal

section resetBlock
variable (s : State)
@[simp] theorem resetBlock_crc : (resetBlock s).crc = State.reset.crc := rfl
@[simp] theorem resetBlock_rxb : (resetBlock s).rxb = State.reset.rxb := rfl
@[simp] theorem resetBlock_rxn : (resetBlock s).rxn = State.reset.rxn := rfl
@[simp] theorem resetBlock_outcome : (resetBlock s).outcome = State.reset.outcome := rfl
@[simp] theorem resetBlock_snew : (resetBlock s).snew = State.reset.snew := rfl
@[simp] theorem resetBlock_duty : (resetBlock s).duty = State.reset.duty := rfl
@[simp] theorem resetBlock_ref : (resetBlock s).ref = State.reset.ref := rfl
@[simp] theorem resetBlock_avg : (resetBlock s).avg = State.reset.avg := rfl
@[simp] theorem resetBlock_mstate : (resetBlock s).mstate = State.reset.mstate := rfl
@[simp] theorem resetBlock_h : (resetBlock s).h = State.reset.h := rfl
@[simp] theorem resetBlock_hcnt : (resetBlock s).hcnt = State.reset.hcnt := rfl
@[simp] theorem resetBlock_sum : (resetBlock s).sum = State.reset.sum := rfl
@[simp] theorem resetBlock_mvalid : (resetBlock s).mvalid = State.reset.mvalid := rfl
@[simp] theorem resetBlock_devn : (resetBlock s).devn = State.reset.devn := rfl
@[simp] theorem resetBlock_pctm : (resetBlock s).pctm = State.reset.pctm := rfl
@[simp] theorem resetBlock_pctr : (resetBlock s).pctr = State.reset.pctr := rfl
@[simp] theorem resetBlock_eill : (resetBlock s).eill = State.reset.eill := rfl
@[simp] theorem resetBlock_port : (resetBlock s).port = s.port := rfl
@[simp] theorem resetBlock_out : (resetBlock s).out = s.out := rfl
@[simp] theorem resetBlock_sent : (resetBlock s).sent = s.sent := rfl
end resetBlock

section putOnLink
variable (bytes : List Byte) (s : State)
@[simp] theorem putOnLink_crc : (putOnLink bytes s).crc = s.crc := rfl
@[simp] theorem putOnLink_rxb : (putOnLink bytes s).rxb = s.rxb := rfl
@[simp] theorem putOnLink_rxn : (putOnLink bytes s).rxn = s.rxn := rfl
@[simp] theorem putOnLink_outcome : (putOnLink bytes s).outcome = s.outcome := rfl
@[simp] theorem putOnLink_snew : (putOnLink bytes s).snew = s.snew := rfl
@[simp] theorem putOnLink_duty : (putOnLink bytes s).duty = s.duty := rfl
@[simp] theorem putOnLink_ref : (putOnLink bytes s).ref = s.ref := rfl
@[simp] theorem putOnLink_avg : (putOnLink bytes s).avg = s.avg := rfl
@[simp] theorem putOnLink_mstate : (putOnLink bytes s).mstate = s.mstate := rfl
@[simp] theorem putOnLink_h : (putOnLink bytes s).h = s.h := rfl
@[simp] theorem putOnLink_hcnt : (putOnLink bytes s).hcnt = s.hcnt := rfl
@[simp] theorem putOnLink_sum : (putOnLink bytes s).sum = s.sum := rfl
@[simp] theorem putOnLink_mvalid : (putOnLink bytes s).mvalid = s.mvalid := rfl
@[simp] theorem putOnLink_devn : (putOnLink bytes s).devn = s.devn := rfl
@[simp] theorem putOnLink_pctm : (putOnLink bytes s).pctm = s.pctm := rfl
@[simp] theorem putOnLink_pctr : (putOnLink bytes s).pctr = s.pctr := rfl
@[simp] theorem putOnLink_eill : (putOnLink bytes s).eill = s.eill := rfl
@[simp] theorem putOnLink_port : (putOnLink bytes s).port = s.port := rfl
@[simp] theorem putOnLink_out : (putOnLink bytes s).out = s.out := rfl
@[simp] theorem putOnLink_sent : (putOnLink bytes s).sent = s.sent ++ bytes := rfl
end putOnLink

section emptyBuffer
variable (s : State)
@[simp] theorem emptyBuffer_crc : (emptyBuffer s).crc = s.crc := rfl
@[simp] theorem emptyBuffer_rxb : (emptyBuffer s).rxb = s.rxb := rfl
@[simp] theorem emptyBuffer_rxn : (emptyBuffer s).rxn = 0#4 := rfl
@[simp] theorem emptyBuffer_outcome : (emptyBuffer s).outcome = s.outcome := rfl
@[simp] theorem emptyBuffer_snew : (emptyBuffer s).snew = s.snew := rfl
@[simp] theorem emptyBuffer_duty : (emptyBuffer s).duty = s.duty := rfl
@[simp] theorem emptyBuffer_ref : (emptyBuffer s).ref = s.ref := rfl
@[simp] theorem emptyBuffer_avg : (emptyBuffer s).avg = s.avg := rfl
@[simp] theorem emptyBuffer_mstate : (emptyBuffer s).mstate = s.mstate := rfl
@[simp] theorem emptyBuffer_h : (emptyBuffer s).h = s.h := rfl
@[simp] theorem emptyBuffer_hcnt : (emptyBuffer s).hcnt = s.hcnt := rfl
@[simp] theorem emptyBuffer_sum : (emptyBuffer s).sum = s.sum := rfl
@[simp] theorem emptyBuffer_mvalid : (emptyBuffer s).mvalid = s.mvalid := rfl
@[simp] theorem emptyBuffer_devn : (emptyBuffer s).devn = s.devn := rfl
@[simp] theorem emptyBuffer_pctm : (emptyBuffer s).pctm = s.pctm := rfl
@[simp] theorem emptyBuffer_pctr : (emptyBuffer s).pctr = s.pctr := rfl
@[simp] theorem emptyBuffer_eill : (emptyBuffer s).eill = s.eill := rfl
@[simp] theorem emptyBuffer_port : (emptyBuffer s).port = s.port := rfl
@[simp] theorem emptyBuffer_out : (emptyBuffer s).out = s.out := rfl
@[simp] theorem emptyBuffer_sent : (emptyBuffer s).sent = s.sent := rfl
end emptyBuffer

section setOutcome
variable (o : DecodeOutcome) (s : State)
@[simp] theorem setOutcome_crc : (setOutcome o s).crc = s.crc := rfl
@[simp] theorem setOutcome_rxb : (setOutcome o s).rxb = s.rxb := rfl
@[simp] theorem setOutcome_rxn : (setOutcome o s).rxn = s.rxn := rfl
@[simp] theorem setOutcome_outcome : (setOutcome o s).outcome = o := rfl
@[simp] theorem setOutcome_snew : (setOutcome o s).snew = (o == .valid) := rfl
@[simp] theorem setOutcome_duty : (setOutcome o s).duty = s.duty := rfl
@[simp] theorem setOutcome_ref : (setOutcome o s).ref = s.ref := rfl
@[simp] theorem setOutcome_avg : (setOutcome o s).avg = s.avg := rfl
@[simp] theorem setOutcome_mstate : (setOutcome o s).mstate = s.mstate := rfl
@[simp] theorem setOutcome_h : (setOutcome o s).h = s.h := rfl
@[simp] theorem setOutcome_hcnt : (setOutcome o s).hcnt = s.hcnt := rfl
@[simp] theorem setOutcome_sum : (setOutcome o s).sum = s.sum := rfl
@[simp] theorem setOutcome_mvalid : (setOutcome o s).mvalid = s.mvalid := rfl
@[simp] theorem setOutcome_devn : (setOutcome o s).devn = s.devn := rfl
@[simp] theorem setOutcome_pctm : (setOutcome o s).pctm = s.pctm := rfl
@[simp] theorem setOutcome_pctr : (setOutcome o s).pctr = s.pctr := rfl
@[simp] theorem setOutcome_eill : (setOutcome o s).eill = s.eill := rfl
@[simp] theorem setOutcome_port : (setOutcome o s).port = s.port := rfl
@[simp] theorem setOutcome_out : (setOutcome o s).out = s.out := rfl
@[simp] theorem setOutcome_sent : (setOutcome o s).sent = s.sent := rfl
end setOutcome

section clearSnew
variable (s : State)
@[simp] theorem clearSnew_crc : (clearSnew s).crc = s.crc := rfl
@[simp] theorem clearSnew_rxb : (clearSnew s).rxb = s.rxb := rfl
@[simp] theorem clearSnew_rxn : (clearSnew s).rxn = s.rxn := rfl
@[simp] theorem clearSnew_outcome : (clearSnew s).outcome = s.outcome := rfl
@[simp] theorem clearSnew_snew : (clearSnew s).snew = false := rfl
@[simp] theorem clearSnew_duty : (clearSnew s).duty = s.duty := rfl
@[simp] theorem clearSnew_ref : (clearSnew s).ref = s.ref := rfl
@[simp] theorem clearSnew_avg : (clearSnew s).avg = s.avg := rfl
@[simp] theorem clearSnew_mstate : (clearSnew s).mstate = s.mstate := rfl
@[simp] theorem clearSnew_h : (clearSnew s).h = s.h := rfl
@[simp] theorem clearSnew_hcnt : (clearSnew s).hcnt = s.hcnt := rfl
@[simp] theorem clearSnew_sum : (clearSnew s).sum = s.sum := rfl
@[simp] theorem clearSnew_mvalid : (clearSnew s).mvalid = s.mvalid := rfl
@[simp] theorem clearSnew_devn : (clearSnew s).devn = s.devn := rfl
@[simp] theorem clearSnew_pctm : (clearSnew s).pctm = s.pctm := rfl
@[simp] theorem clearSnew_pctr : (clearSnew s).pctr = s.pctr := rfl
@[simp] theorem clearSnew_eill : (clearSnew s).eill = s.eill := rfl
@[simp] theorem clearSnew_port : (clearSnew s).port = s.port := rfl
@[simp] theorem clearSnew_out : (clearSnew s).out = s.out := rfl
@[simp] theorem clearSnew_sent : (clearSnew s).sent = s.sent := rfl
end clearSnew

section clearMvalid
variable (s : State)
@[simp] theorem clearMvalid_crc : (clearMvalid s).crc = s.crc := rfl
@[simp] theorem clearMvalid_rxb : (clearMvalid s).rxb = s.rxb := rfl
@[simp] theorem clearMvalid_rxn : (clearMvalid s).rxn = s.rxn := rfl
@[simp] theorem clearMvalid_outcome : (clearMvalid s).outcome = s.outcome := rfl
@[simp] theorem clearMvalid_snew : (clearMvalid s).snew = s.snew := rfl
@[simp] theorem clearMvalid_duty : (clearMvalid s).duty = s.duty := rfl
@[simp] theorem clearMvalid_ref : (clearMvalid s).ref = s.ref := rfl
@[simp] theorem clearMvalid_avg : (clearMvalid s).avg = s.avg := rfl
@[simp] theorem clearMvalid_mstate : (clearMvalid s).mstate = s.mstate := rfl
@[simp] theorem clearMvalid_h : (clearMvalid s).h = s.h := rfl
@[simp] theorem clearMvalid_hcnt : (clearMvalid s).hcnt = s.hcnt := rfl
@[simp] theorem clearMvalid_sum : (clearMvalid s).sum = s.sum := rfl
@[simp] theorem clearMvalid_mvalid : (clearMvalid s).mvalid = false := rfl
@[simp] theorem clearMvalid_devn : (clearMvalid s).devn = s.devn := rfl
@[simp] theorem clearMvalid_pctm : (clearMvalid s).pctm = s.pctm := rfl
@[simp] theorem clearMvalid_pctr : (clearMvalid s).pctr = s.pctr := rfl
@[simp] theorem clearMvalid_eill : (clearMvalid s).eill = s.eill := rfl
@[simp] theorem clearMvalid_port : (clearMvalid s).port = s.port := rfl
@[simp] theorem clearMvalid_out : (clearMvalid s).out = s.out := rfl
@[simp] theorem clearMvalid_sent : (clearMvalid s).sent = s.sent := rfl
end clearMvalid

section loadSample
variable (x : Vector Byte 8) (s : State)
@[simp] theorem loadSample_crc : (loadSample x s).crc = s.crc := rfl
@[simp] theorem loadSample_rxb : (loadSample x s).rxb = s.rxb := rfl
@[simp] theorem loadSample_rxn : (loadSample x s).rxn = s.rxn := rfl
@[simp] theorem loadSample_outcome : (loadSample x s).outcome = s.outcome := rfl
@[simp] theorem loadSample_snew : (loadSample x s).snew = s.snew := rfl
@[simp] theorem loadSample_duty : (loadSample x s).duty = le16 x[0] x[1] := rfl
@[simp] theorem loadSample_ref : (loadSample x s).ref = le16 x[2] x[3] := rfl
@[simp] theorem loadSample_avg : (loadSample x s).avg = le16 x[4] x[5] := rfl
@[simp] theorem loadSample_mstate : (loadSample x s).mstate = x[6] := rfl
@[simp] theorem loadSample_h : (loadSample x s).h = s.h := rfl
@[simp] theorem loadSample_hcnt : (loadSample x s).hcnt = s.hcnt := rfl
@[simp] theorem loadSample_sum : (loadSample x s).sum = s.sum := rfl
@[simp] theorem loadSample_mvalid : (loadSample x s).mvalid = s.mvalid := rfl
@[simp] theorem loadSample_devn : (loadSample x s).devn = s.devn := rfl
@[simp] theorem loadSample_pctm : (loadSample x s).pctm = s.pctm := rfl
@[simp] theorem loadSample_pctr : (loadSample x s).pctr = s.pctr := rfl
@[simp] theorem loadSample_eill : (loadSample x s).eill = s.eill := rfl
@[simp] theorem loadSample_port : (loadSample x s).port = s.port := rfl
@[simp] theorem loadSample_out : (loadSample x s).out = s.out := rfl
@[simp] theorem loadSample_sent : (loadSample x s).sent = s.sent := rfl
end loadSample

section presentNext
variable (e : Encoding) (s : State)
@[simp] theorem presentNext_crc : (presentNext e s).crc = s.crc := rfl
@[simp] theorem presentNext_rxb : (presentNext e s).rxb = s.rxb := rfl
@[simp] theorem presentNext_rxn : (presentNext e s).rxn = s.rxn := rfl
@[simp] theorem presentNext_outcome : (presentNext e s).outcome = s.outcome := rfl
@[simp] theorem presentNext_snew : (presentNext e s).snew = s.snew := rfl
@[simp] theorem presentNext_duty : (presentNext e s).duty = s.duty := rfl
@[simp] theorem presentNext_ref : (presentNext e s).ref = s.ref := rfl
@[simp] theorem presentNext_avg : (presentNext e s).avg = s.avg := rfl
@[simp] theorem presentNext_mstate : (presentNext e s).mstate = s.mstate := rfl
@[simp] theorem presentNext_h : (presentNext e s).h = s.h := rfl
@[simp] theorem presentNext_hcnt : (presentNext e s).hcnt = s.hcnt := rfl
@[simp] theorem presentNext_sum : (presentNext e s).sum = s.sum := rfl
@[simp] theorem presentNext_mvalid : (presentNext e s).mvalid = s.mvalid := rfl
@[simp] theorem presentNext_devn : (presentNext e s).devn = s.devn := rfl
@[simp] theorem presentNext_pctm : (presentNext e s).pctm = s.pctm := rfl
@[simp] theorem presentNext_pctr : (presentNext e s).pctr = s.pctr := rfl
@[simp] theorem presentNext_eill : (presentNext e s).eill = s.eill := rfl
@[simp] theorem presentNext_port : (presentNext e s).port = .present e :: s.port := rfl
@[simp] theorem presentNext_out : (presentNext e s).out = s.out := rfl
@[simp] theorem presentNext_sent : (presentNext e s).sent = s.sent := rfl
end presentNext

end Sys2Proof.Machine
end

