-- ==== Sys2Proof/Laws/Ops.lean ====
section
/-! SUPPORT. What each shared operation can do, said once: which fields it leaves alone, and its cases. Later proofs
cite these and do not unfold the operations. -/

namespace Sys2Proof.Machine

section pushByte
variable (b : Byte) (s : State)
@[simp] theorem pushByte_crc : (pushByte b s).crc = s.crc := by unfold pushByte; split <;> rfl
@[simp] theorem pushByte_outcome : (pushByte b s).outcome = s.outcome := by unfold pushByte; split <;> rfl
@[simp] theorem pushByte_snew : (pushByte b s).snew = s.snew := by unfold pushByte; split <;> rfl
@[simp] theorem pushByte_duty : (pushByte b s).duty = s.duty := by unfold pushByte; split <;> rfl
@[simp] theorem pushByte_ref : (pushByte b s).ref = s.ref := by unfold pushByte; split <;> rfl
@[simp] theorem pushByte_avg : (pushByte b s).avg = s.avg := by unfold pushByte; split <;> rfl
@[simp] theorem pushByte_mstate : (pushByte b s).mstate = s.mstate := by unfold pushByte; split <;> rfl
@[simp] theorem pushByte_h : (pushByte b s).h = s.h := by unfold pushByte; split <;> rfl
@[simp] theorem pushByte_hcnt : (pushByte b s).hcnt = s.hcnt := by unfold pushByte; split <;> rfl
@[simp] theorem pushByte_sum : (pushByte b s).sum = s.sum := by unfold pushByte; split <;> rfl
@[simp] theorem pushByte_mvalid : (pushByte b s).mvalid = s.mvalid := by unfold pushByte; split <;> rfl
@[simp] theorem pushByte_devn : (pushByte b s).devn = s.devn := by unfold pushByte; split <;> rfl
@[simp] theorem pushByte_pctm : (pushByte b s).pctm = s.pctm := by unfold pushByte; split <;> rfl
@[simp] theorem pushByte_pctr : (pushByte b s).pctr = s.pctr := by unfold pushByte; split <;> rfl
@[simp] theorem pushByte_eill : (pushByte b s).eill = s.eill := by unfold pushByte; split <;> rfl
@[simp] theorem pushByte_port : (pushByte b s).port = s.port := by unfold pushByte; split <;> rfl
@[simp] theorem pushByte_sent : (pushByte b s).sent = s.sent := by unfold pushByte; split <;> rfl
end pushByte

section decodeBuffer
variable (s : State)
@[simp] theorem decodeBuffer_crc : (decodeBuffer s).crc = s.crc := by unfold decodeBuffer; split <;> [rfl; (split <;> rfl)]
@[simp] theorem decodeBuffer_rxb : (decodeBuffer s).rxb = s.rxb := by unfold decodeBuffer; split <;> [rfl; (split <;> rfl)]
@[simp] theorem decodeBuffer_h : (decodeBuffer s).h = s.h := by unfold decodeBuffer; split <;> [rfl; (split <;> rfl)]
@[simp] theorem decodeBuffer_hcnt : (decodeBuffer s).hcnt = s.hcnt := by unfold decodeBuffer; split <;> [rfl; (split <;> rfl)]
@[simp] theorem decodeBuffer_sum : (decodeBuffer s).sum = s.sum := by unfold decodeBuffer; split <;> [rfl; (split <;> rfl)]
@[simp] theorem decodeBuffer_mvalid : (decodeBuffer s).mvalid = s.mvalid := by unfold decodeBuffer; split <;> [rfl; (split <;> rfl)]
@[simp] theorem decodeBuffer_devn : (decodeBuffer s).devn = s.devn := by unfold decodeBuffer; split <;> [rfl; (split <;> rfl)]
@[simp] theorem decodeBuffer_pctm : (decodeBuffer s).pctm = s.pctm := by unfold decodeBuffer; split <;> [rfl; (split <;> rfl)]
@[simp] theorem decodeBuffer_pctr : (decodeBuffer s).pctr = s.pctr := by unfold decodeBuffer; split <;> [rfl; (split <;> rfl)]
@[simp] theorem decodeBuffer_eill : (decodeBuffer s).eill = s.eill := by unfold decodeBuffer; split <;> [rfl; (split <;> rfl)]
@[simp] theorem decodeBuffer_port : (decodeBuffer s).port = s.port := by unfold decodeBuffer; split <;> [rfl; (split <;> rfl)]
@[simp] theorem decodeBuffer_sent : (decodeBuffer s).sent = s.sent := by unfold decodeBuffer; split <;> [rfl; (split <;> rfl)]
end decodeBuffer

section histPush
variable (v : Half) (s : State)
@[simp] theorem histPush_crc : (histPush v s).crc = s.crc := by unfold histPush; split <;> rfl
@[simp] theorem histPush_rxb : (histPush v s).rxb = s.rxb := by unfold histPush; split <;> rfl
@[simp] theorem histPush_rxn : (histPush v s).rxn = s.rxn := by unfold histPush; split <;> rfl
@[simp] theorem histPush_outcome : (histPush v s).outcome = s.outcome := by unfold histPush; split <;> rfl
@[simp] theorem histPush_snew : (histPush v s).snew = s.snew := by unfold histPush; split <;> rfl
@[simp] theorem histPush_duty : (histPush v s).duty = s.duty := by unfold histPush; split <;> rfl
@[simp] theorem histPush_ref : (histPush v s).ref = s.ref := by unfold histPush; split <;> rfl
@[simp] theorem histPush_avg : (histPush v s).avg = s.avg := by unfold histPush; split <;> rfl
@[simp] theorem histPush_mstate : (histPush v s).mstate = s.mstate := by unfold histPush; split <;> rfl
@[simp] theorem histPush_mvalid : (histPush v s).mvalid = s.mvalid := by unfold histPush; split <;> rfl
@[simp] theorem histPush_devn : (histPush v s).devn = s.devn := by unfold histPush; split <;> rfl
@[simp] theorem histPush_pctm : (histPush v s).pctm = s.pctm := by unfold histPush; split <;> rfl
@[simp] theorem histPush_pctr : (histPush v s).pctr = s.pctr := by unfold histPush; split <;> rfl
@[simp] theorem histPush_eill : (histPush v s).eill = s.eill := by unfold histPush; split <;> rfl
@[simp] theorem histPush_port : (histPush v s).port = s.port := by unfold histPush; split <;> rfl
@[simp] theorem histPush_out : (histPush v s).out = s.out := by unfold histPush; split <;> rfl
@[simp] theorem histPush_sent : (histPush v s).sent = s.sent := by unfold histPush; split <;> rfl
end histPush

section metricUpdate
variable (r : Half) (s : State)
@[simp] theorem metricUpdate_crc : (metricUpdate r s).crc = s.crc := by unfold metricUpdate; split <;> rfl
@[simp] theorem metricUpdate_rxb : (metricUpdate r s).rxb = s.rxb := by unfold metricUpdate; split <;> rfl
@[simp] theorem metricUpdate_rxn : (metricUpdate r s).rxn = s.rxn := by unfold metricUpdate; split <;> rfl
@[simp] theorem metricUpdate_outcome : (metricUpdate r s).outcome = s.outcome := by unfold metricUpdate; split <;> rfl
@[simp] theorem metricUpdate_snew : (metricUpdate r s).snew = s.snew := by unfold metricUpdate; split <;> rfl
@[simp] theorem metricUpdate_duty : (metricUpdate r s).duty = s.duty := by unfold metricUpdate; split <;> rfl
@[simp] theorem metricUpdate_ref : (metricUpdate r s).ref = s.ref := by unfold metricUpdate; split <;> rfl
@[simp] theorem metricUpdate_avg : (metricUpdate r s).avg = s.avg := by unfold metricUpdate; split <;> rfl
@[simp] theorem metricUpdate_mstate : (metricUpdate r s).mstate = s.mstate := by unfold metricUpdate; split <;> rfl
@[simp] theorem metricUpdate_h : (metricUpdate r s).h = s.h := by unfold metricUpdate; split <;> rfl
@[simp] theorem metricUpdate_hcnt : (metricUpdate r s).hcnt = s.hcnt := by unfold metricUpdate; split <;> rfl
@[simp] theorem metricUpdate_sum : (metricUpdate r s).sum = s.sum := by unfold metricUpdate; split <;> rfl
@[simp] theorem metricUpdate_eill : (metricUpdate r s).eill = s.eill := by unfold metricUpdate; split <;> rfl
@[simp] theorem metricUpdate_port : (metricUpdate r s).port = s.port := by unfold metricUpdate; split <;> rfl
@[simp] theorem metricUpdate_out : (metricUpdate r s).out = s.out := by unfold metricUpdate; split <;> rfl
@[simp] theorem metricUpdate_sent : (metricUpdate r s).sent = s.sent := by unfold metricUpdate; split <;> rfl
end metricUpdate

section answerMetric
variable (s : State)
@[simp] theorem answerMetric_crc : (answerMetric s).crc = s.crc := by unfold answerMetric; split <;> rfl
@[simp] theorem answerMetric_rxb : (answerMetric s).rxb = s.rxb := by unfold answerMetric; split <;> rfl
@[simp] theorem answerMetric_rxn : (answerMetric s).rxn = s.rxn := by unfold answerMetric; split <;> rfl
@[simp] theorem answerMetric_outcome : (answerMetric s).outcome = s.outcome := by unfold answerMetric; split <;> rfl
@[simp] theorem answerMetric_snew : (answerMetric s).snew = s.snew := by unfold answerMetric; split <;> rfl
@[simp] theorem answerMetric_duty : (answerMetric s).duty = s.duty := by unfold answerMetric; split <;> rfl
@[simp] theorem answerMetric_ref : (answerMetric s).ref = s.ref := by unfold answerMetric; split <;> rfl
@[simp] theorem answerMetric_avg : (answerMetric s).avg = s.avg := by unfold answerMetric; split <;> rfl
@[simp] theorem answerMetric_mstate : (answerMetric s).mstate = s.mstate := by unfold answerMetric; split <;> rfl
@[simp] theorem answerMetric_h : (answerMetric s).h = s.h := by unfold answerMetric; split <;> rfl
@[simp] theorem answerMetric_hcnt : (answerMetric s).hcnt = s.hcnt := by unfold answerMetric; split <;> rfl
@[simp] theorem answerMetric_sum : (answerMetric s).sum = s.sum := by unfold answerMetric; split <;> rfl
@[simp] theorem answerMetric_mvalid : (answerMetric s).mvalid = s.mvalid := by unfold answerMetric; split <;> rfl
@[simp] theorem answerMetric_devn : (answerMetric s).devn = s.devn := by unfold answerMetric; split <;> rfl
@[simp] theorem answerMetric_pctm : (answerMetric s).pctm = s.pctm := by unfold answerMetric; split <;> rfl
@[simp] theorem answerMetric_pctr : (answerMetric s).pctr = s.pctr := by unfold answerMetric; split <;> rfl
@[simp] theorem answerMetric_eill : (answerMetric s).eill = s.eill := by unfold answerMetric; split <;> rfl
@[simp] theorem answerMetric_port : (answerMetric s).port = s.port := by unfold answerMetric; split <;> rfl
@[simp] theorem answerMetric_sent : (answerMetric s).sent = s.sent := by unfold answerMetric; split <;> rfl
end answerMetric

/-- A received byte while there is room (41_codec.md R127). -/
theorem pushByte_of_room {s : State} (b : Byte) (hn : s.rxn.toNat < 8) :
    pushByte b s = respond .ok ((s.rxn + 1#4).setWidth 32)
      { s with rxb := s.rxb.setIfInBounds s.rxn.toNat b, rxn := s.rxn + 1#4 } := by
  unfold pushByte
  exact if_pos (BitVec.lt_def.2 hn)

/-- A received byte when the buffer is full (R128). -/
theorem pushByte_of_full {s : State} (b : Byte) (hn : 8 ≤ s.rxn.toNat) :
    pushByte b s = respond .rxFull 9#32 { s with rxn := 9#4 } := by
  unfold pushByte
  exact if_neg (fun h => absurd (BitVec.lt_def.1 h) (by simpa using hn))

/-- The two cases of a received byte. -/
theorem pushByte_cases (b : Byte) (s : State) :
    (s.rxn.toNat < 8 ∧ pushByte b s = respond .ok ((s.rxn + 1#4).setWidth 32)
        { s with rxb := s.rxb.setIfInBounds s.rxn.toNat b, rxn := s.rxn + 1#4 }) ∨
    (8 ≤ s.rxn.toNat ∧ pushByte b s = respond .rxFull 9#32 { s with rxn := 9#4 }) := by
  rcases Nat.lt_or_ge s.rxn.toNat 8 with hn | hn
  · exact .inl ⟨hn, pushByte_of_room b hn⟩
  · exact .inr ⟨hn, pushByte_of_full b hn⟩

/-- The three cases of a decode (R132). -/
theorem decodeBuffer_cases (s : State) :
    (s.rxn ≠ 8#4 ∧ decodeBuffer s =
        respond .incomplete (s.rxn.setWidth 32) (setOutcome .incomplete (emptyBuffer s))) ∨
    (s.rxn = 8#4 ∧ crc8 (rxPayload s.rxb) ≠ s.rxb[7] ∧ decodeBuffer s =
        respond .ckMismatch (((crc8 (rxPayload s.rxb)).setWidth 32 <<< 8) ||| (s.rxb[7]).setWidth 32)
          (setOutcome .ckMismatch (emptyBuffer s))) ∨
    (s.rxn = 8#4 ∧ crc8 (rxPayload s.rxb) = s.rxb[7] ∧ decodeBuffer s =
        respond .ok 0#32 (setOutcome .valid (loadSample s.rxb (emptyBuffer s)))) := by
  by_cases h1 : s.rxn = 8#4
  · by_cases h2 : crc8 (rxPayload s.rxb) = s.rxb[7]
    · exact .inr (.inr ⟨h1, h2, by simp [decodeBuffer, h1, h2]⟩)
    · exact .inr (.inl ⟨h1, h2, by simp [decodeBuffer, h1, h2]⟩)
  · exact .inl ⟨h1, by simp [decodeBuffer, h1]⟩

/-- A decode consumes the buffer in every case (R132). -/
@[simp] theorem decodeBuffer_rxn (s : State) : (decodeBuffer s).rxn = 0#4 := by
  rcases decodeBuffer_cases s with ⟨_, h⟩ | ⟨_, _, h⟩ | ⟨_, _, h⟩ <;> simp [h]

/-- The two cases of a push (10_state.md R34). -/
theorem histPush_cases (v : Half) (s : State) :
    (s.hcnt.toNat < 50 ∧ (histPush v s).h = s.h ++ [v] ∧ (histPush v s).hcnt = s.hcnt + 1#6 ∧
        (histPush v s).sum = s.sum + v.setWidth 22) ∨
    (50 ≤ s.hcnt.toNat ∧ (histPush v s).h = s.h.tail ++ [v] ∧ (histPush v s).hcnt = 50#6 ∧
        (histPush v s).sum = s.sum + v.setWidth 22 - (s.h.headD 0#16).setWidth 22) := by
  rcases Nat.lt_or_ge s.hcnt.toNat 50 with hn | hn
  · refine .inl ⟨hn, ?_⟩
    simp [histPush, evicted, hn]
  · refine .inr ⟨hn, ?_⟩
    rcases hh : s.h with _ | ⟨e, l⟩ <;> simp [histPush, evicted, Nat.not_lt.2 hn, hh]

/-- A metric is computed when the history is long enough (42_history.md R159). -/
theorem metricUpdate_of_enough {s : State} (r : Half) (hn : 10 ≤ s.hcnt.toNat) :
    metricUpdate r s = { s with devn := BitVec.ofNat 22 (devn s.h), pctm := BitVec.ofNat 32 (pctm s.h),
                                pctr := BitVec.ofNat 32 (pctr s.h r), mvalid := true } := by
  unfold metricUpdate
  exact if_pos hn

/-- Below the threshold only `MVALID` is cleared (R159). -/
theorem metricUpdate_of_few {s : State} (r : Half) (hn : s.hcnt.toNat < 10) :
    metricUpdate r s = clearMvalid s := by
  unfold metricUpdate
  exact if_neg (Nat.not_le.2 hn)

/-- After an update `MVALID` is set when the history was long enough (R159). -/
@[simp] theorem metricUpdate_mvalid_true (r : Half) (s : State) :
    (metricUpdate r s).mvalid = true ↔ 10 ≤ s.hcnt.toNat := by
  rcases Nat.lt_or_ge s.hcnt.toNat 10 with hn | hn
  · simp [metricUpdate_of_few r hn, hn]
  · simp [metricUpdate_of_enough r hn, hn]

/-- After an update `MVALID` is clear when the history was too short (R159). -/
@[simp] theorem metricUpdate_mvalid_false (r : Half) (s : State) :
    (metricUpdate r s).mvalid = false ↔ s.hcnt.toNat < 10 := by
  rw [← Bool.not_eq_true, metricUpdate_mvalid_true, Nat.not_le]

/-- The answer of the metric operations (R160, R162). -/
@[simp] theorem answerMetric_out (s : State) :
    (answerMetric s).out = s.out ++ [⟨if s.mvalid then .ok else .noMetric, s.hcnt.setWidth 32⟩] := by
  unfold answerMetric
  cases s.mvalid <;> rfl

/-- Every operation answers a next state: no meaning faults and none refuses (60_exceptions.md R190). -/
theorem exec_total (i : Instr) (s : State) : ∃ t, exec i s = .next t := by
  cases i <;>
    simp only [exec, execSysRst, execSysStat, execCkClr, execCkAbs, execCkRd, execEncSpd, execEncTrq, execRxClr,
      execRxPush, execDec, execSmpRd, execSmpAcc, execHsPush, execHsMet, execHsRd, execMetRd, execSetspeed,
      execTelemreq, execTelemetry] <;>
    (repeat' split) <;> exact ⟨_, rfl⟩

/-- What one step can do, by the head of the port. -/
theorem step_cases (s : State) :
    (s.port = [] ∧ step s = .next s) ∨
    (∃ rest, s.port = .hardReset :: rest ∧ step s = .next (resetBlock { s with port := rest })) ∨
    (∃ e rest i, s.port = .present e :: rest ∧ decode e = .ok i ∧ step s = exec i { s with port := rest }) ∨
    (∃ e rest r, s.port = .present e :: rest ∧ decode e = .error r ∧
      step s = rejectInput e { s with port := rest }) := by
  rcases hp : s.port with _ | ⟨x, rest⟩
  · exact .inl ⟨rfl, by simp [step, takeNext, hp]⟩
  · rcases x with e | _
    · rcases hd : decode e with r | i
      · exact .inr (.inr (.inr ⟨e, rest, r, rfl, hd, by simp [step, takeNext, takeInput, takeEncoding, hp, hd]⟩))
      · exact .inr (.inr (.inl ⟨e, rest, i, rfl, hd, by simp [step, takeNext, takeInput, takeEncoding, hp, hd]⟩))
    · exact .inr (.inl ⟨rest, rfl, by simp [step, takeNext, takeInput, hp]⟩)

/-- A run of no step. -/
@[simp] theorem runSteps_zero (s : State) : runSteps 0 s = some s := rfl

/-- A run whose first step answers a next state goes on from it. -/
theorem runSteps_succ {s t : State} (k : Nat) (h : step s = .next t) : runSteps (k + 1) s = runSteps k t := by
  simp [runSteps, h]

/-- Runs in a row are one run. -/
theorem runSteps_add {j : Nat} {s t : State} (k : Nat) (h : runSteps j s = some t) :
    runSteps (j + k) s = runSteps k t := by
  induction j generalizing s with
  | zero => simp_all
  | succ j ih =>
    rw [Nat.succ_add]
    rw [runSteps] at h ⊢
    split at h
    · exact ih h
    · cases h
    · cases h

/-- One step of the host's run. -/
theorem host_run_succ (M : Host.Core) (k : Nat) (s t : M.State) (h : M.step s = .next t) :
    M.run (k + 1) s = M.run k t := by
  rw [Host.Core.run, h]

/-- A run that does not stop is a run of the host's machine. -/
theorem run_of_runSteps {k : Nat} {s t : State} (h : runSteps k s = some t) : Sys2Proof.core.run k s = .next t := by
  induction k generalizing s with
  | zero => cases h; rfl
  | succ k ih =>
    rw [runSteps] at h
    split at h
    · rename_i u hu
      exact (host_run_succ Sys2Proof.core k s u hu).trans (ih h)
    · cases h
    · cases h

end Sys2Proof.Machine
end

