-- ==== Sys2Proof/Laws/PerInstr.lean ====
section
/-! SUPPORT. Statements made once per instruction. `RowFit`: the encoding of an instruction has the format of its row of
spec/opcode_table.json and meets the row's match, mask and selector constraint (30_encoding.md R84, R71 to R74). -/

namespace Sys2Proof.Laws.RowFit

open Sys2Proof.Machine

/-- A command row: match and mask, written from the table. -/
def cmdRow (i : Instr) (mat mask : Word) : Prop := ∃ w, encode i = .cmd32 w ∧ w &&& mask = mat

/-- A 4-byte frame row. -/
def wireRow (i : Instr) (mat mask : Word) : Prop := ∃ w, encode i = .wire4 w ∧ w &&& mask = mat

/-- The encoding of an instruction fits its row. -/
def Statement : Instr → Prop
  | .sysRst => cmdRow .sysRst 0x01000000#32 0xFFFFFFFF#32
  | .sysStat => cmdRow .sysStat 0x02000000#32 0xFFFFFFFF#32
  | .ckClr => cmdRow .ckClr 0x10000000#32 0xFFFFFFFF#32
  | .ckAbs b => cmdRow (.ckAbs b) 0x11000000#32 0xFFFFFF00#32
  | .ckRd => cmdRow .ckRd 0x12000000#32 0xFFFFFFFF#32
  | .encSpd rpm => cmdRow (.encSpd rpm) 0x21000000#32 0xFFFF0000#32
  | .encTrq => cmdRow .encTrq 0x22000000#32 0xFFFFFFFF#32
  | .rxClr => cmdRow .rxClr 0x30000000#32 0xFFFFFFFF#32
  | .rxPush b => cmdRow (.rxPush b) 0x31000000#32 0xFFFFFF00#32
  | .dec => cmdRow .dec 0x32000000#32 0xFFFFFFFF#32
  | .smpRd f => cmdRow (.smpRd f) 0x33000000#32 0xFFFFFFF8#32 ∧ (sampleSelNum f).toNat ≤ 4
  | .smpAcc => cmdRow .smpAcc 0x40000000#32 0xFFFFFFFF#32
  | .hsPush v => cmdRow (.hsPush v) 0x41000000#32 0xFFFF0000#32
  | .hsMet ref => cmdRow (.hsMet ref) 0x42000000#32 0xFFFF0000#32
  | .hsRd i => cmdRow (.hsRd i) 0x43000000#32 0xFFFF0000#32
  | .metRd f => cmdRow (.metRd f) 0x44000000#32 0xFFFFFFF8#32 ∧ (metricSelNum f).toNat ≤ 4
  | .setspeed rpm crc => wireRow (.setspeed rpm crc) 0x00000001#32 0x000000FF#32
  | .telemreq => wireRow .telemreq 0xD6000002#32 0xFFFFFFFF#32
  | .telemetry duty ref avg mstate crc => ∃ w, encode (.telemetry duty ref avg mstate crc) = .wire8 w

/-- A command word keeps its operation code and reserved bits under a mask of the upper half. -/
theorem commandWord_and_upper (op : Byte) (arg : Half) :
    commandWord op arg &&& 0xFFFF0000#32 = commandWord op 0#16 := by
  apply BitVec.eq_of_getLsbD_eq
  intro i hi
  interval_cases i <;> simp [commandWord]

/-- A command word of the byte form keeps all but its operand under the byte form's mask. -/
theorem commandWord_and_byte (op b : Byte) :
    commandWord op (b.setWidth 16) &&& 0xFFFFFF00#32 = commandWord op 0#16 := by
  apply BitVec.eq_of_getLsbD_eq
  intro i hi
  interval_cases i <;> simp [commandWord]

theorem sysRst : Statement .sysRst := ⟨_, rfl, by decide⟩
theorem sysStat : Statement .sysStat := ⟨_, rfl, by decide⟩
theorem ckClr : Statement .ckClr := ⟨_, rfl, by decide⟩
theorem ckAbs (b : Byte) : Statement (.ckAbs b) := ⟨_, rfl, commandWord_and_byte _ b⟩
theorem ckRd : Statement .ckRd := ⟨_, rfl, by decide⟩
theorem encSpd (rpm : Half) : Statement (.encSpd rpm) := ⟨_, rfl, commandWord_and_upper _ rpm⟩
theorem encTrq : Statement .encTrq := ⟨_, rfl, by decide⟩
theorem rxClr : Statement .rxClr := ⟨_, rfl, by decide⟩
theorem rxPush (b : Byte) : Statement (.rxPush b) := ⟨_, rfl, commandWord_and_byte _ b⟩
theorem dec : Statement .dec := ⟨_, rfl, by decide⟩
theorem smpRd (f : SampleSel) : Statement (.smpRd f) := ⟨⟨_, rfl, by cases f <;> decide⟩, by cases f <;> decide⟩
theorem smpAcc : Statement .smpAcc := ⟨_, rfl, by decide⟩
theorem hsPush (v : Half) : Statement (.hsPush v) := ⟨_, rfl, commandWord_and_upper _ v⟩
theorem hsMet (ref : Half) : Statement (.hsMet ref) := ⟨_, rfl, commandWord_and_upper _ ref⟩
theorem hsRd (i : Half) : Statement (.hsRd i) := ⟨_, rfl, commandWord_and_upper _ i⟩
theorem metRd (f : MetricSel) : Statement (.metRd f) := ⟨⟨_, rfl, by cases f <;> decide⟩, by cases f <;> decide⟩

theorem setspeed (rpm : Half) (crc : Byte) : Statement (.setspeed rpm crc) := by
  refine ⟨_, rfl, ?_⟩
  apply BitVec.eq_of_getLsbD_eq
  intro i hi
  interval_cases i <;> simp [wire4Word]

theorem telemreq : Statement .telemreq := ⟨_, rfl, by decide⟩
theorem telemetry (duty ref avg : Half) (mstate crc : Byte) : Statement (.telemetry duty ref avg mstate crc) := ⟨_, rfl⟩

end Sys2Proof.Laws.RowFit
end

