-- ==== Sys2Proof/Tests/Slice0.lean ====
section
/-! SUPPORT. Tests, each against words and numbers written out from spec/ (the file and section stand beside them), and one
witness for the hypotheses of each obligation that has any. -/

namespace Sys2Proof.Tests

open Sys2Proof.Machine Sys2Proof.Claims

-- One proof after the other: each `decide +kernel` waits for the kernel, and a hundred waiting threads are too many.
set_option Elab.async false

/-! ### Helpers -/

/-- What a function reads in the next state, if there is one. -/
def after {α : Type} (o : Host.Outcome State Fault Refusal) (f : State → α) : Option α :=
  match o with
  | .next t => some (f t)
  | .fault _ => none
  | .refused _ => none

/-- The response an operation gave, from a state that had none. -/
def answer (i : Instr) (s : State) : Option (List Response) := after (exec i s) (fun t => t.out)

/-- The reset state with these words presented. -/
def presented (ws : List Word) : State := { State.reset with port := ws.map command }

/-- The reset state with a receive buffer. -/
def received (rxb : Vector Byte 8) (n : BitVec 4) : State := { State.reset with rxb := rxb, rxn := n }

/-- The telemetry frame of 95_test_vectors.md section 3.2, row 2. -/
def good : Vector Byte 8 := #v[0xF4#8, 0x01#8, 0x64#8, 0x00#8, 0x96#8, 0x00#8, 0x06#8, 0x04#8]

/-- The frame with motor state 99, row 5 of the same table. -/
def unknownState : Vector Byte 8 := #v[0x02#8, 0x01#8, 0x04#8, 0x03#8, 0x06#8, 0x05#8, 0x63#8, 0x37#8]

/-- The reset state after the decode of `good`. -/
def sampled : State :=
  { State.reset with outcome := .valid, snew := true, duty := 500#16, ref := 100#16, avg := 150#16, mstate := 6#8 }

/-- A state with a history. -/
def withHistory (l : List Half) (s : State) : State :=
  { s with h := l, hcnt := BitVec.ofNat 6 l.length, sum := BitVec.ofNat 22 (histSum l) }

/-- The history of the source's example (95_test_vectors.md section 1.6). -/
def tenEntries : List Half := List.replicate 9 100#16 ++ [150#16]

/-- The sampled state with the source's example and its metric. -/
def measured : State :=
  { withHistory tenEntries sampled with mvalid := true, devn := 450#22, pctm := 4286#32, pctr := 4500#32 }

/-! ### Decoding: words written out from 30_encoding.md R84, R78, R81 and R72 to R76 -/

/-- `op << 24 | arg`: SYS.RST is op 0x01 and no operand; SYS.STAT is op 0x02. -/
theorem test_decode_system : decode (.cmd32 0b00000001_00000000_0000000000000000#32) = .ok .sysRst ∧
    decode (.cmd32 0b00000010_00000000_0000000000000000#32) = .ok .sysStat := by decide

/-- CK.CLR op 0x10, CK.ABS op 0x11 with the byte in arg[7:0], CK.RD op 0x12. -/
theorem test_decode_checksum : decode (.cmd32 0b00010000_00000000_0000000000000000#32) = .ok .ckClr ∧
    decode (.cmd32 0b00010001_00000000_0000000010000001#32) = .ok (.ckAbs 0x81#8) ∧
    decode (.cmd32 0b00010010_00000000_0000000000000000#32) = .ok .ckRd := by decide

/-- ENC.SPD op 0x21 with rpm in arg[15:0] (0x1234 of 95_test_vectors.md section 3.1), ENC.TRQ op 0x22, RX.CLR op 0x30,
RX.PUSH op 0x31, DEC op 0x32. -/
theorem test_decode_codec : decode (.cmd32 0x21001234#32) = .ok (.encSpd 0x1234#16) ∧
    decode (.cmd32 0x22000000#32) = .ok .encTrq ∧ decode (.cmd32 0x30000000#32) = .ok .rxClr ∧
    decode (.cmd32 0x310000F4#32) = .ok (.rxPush 0xF4#8) ∧ decode (.cmd32 0x32000000#32) = .ok .dec := by decide

/-- SMP.RD op 0x33, selectors 0 to 4 in the order of 41_codec.md R136. -/
theorem test_decode_sample_selectors : decode (.cmd32 0x33000000#32) = .ok (.smpRd .duty) ∧
    decode (.cmd32 0x33000001#32) = .ok (.smpRd .ref) ∧ decode (.cmd32 0x33000002#32) = .ok (.smpRd .avg) ∧
    decode (.cmd32 0x33000003#32) = .ok (.smpRd .mstate) ∧
    decode (.cmd32 0x33000004#32) = .ok (.smpRd .motorClass) := by decide

/-- SMP.ACC op 0x40, HS.PUSH op 0x41, HS.MET op 0x42, HS.RD op 0x43. -/
theorem test_decode_history : decode (.cmd32 0x40000000#32) = .ok .smpAcc ∧
    decode (.cmd32 0x4100FFFF#32) = .ok (.hsPush 65535#16) ∧ decode (.cmd32 0x4200001A#32) = .ok (.hsMet 26#16) ∧
    decode (.cmd32 0x43000032#32) = .ok (.hsRd 50#16) := by decide

/-- MET.RD op 0x44, selectors 0 to 4 in the order of 42_history.md R167. -/
theorem test_decode_metric_selectors : decode (.cmd32 0x44000000#32) = .ok (.metRd .pctm) ∧
    decode (.cmd32 0x44000001#32) = .ok (.metRd .pctr) ∧ decode (.cmd32 0x44000002#32) = .ok (.metRd .devn) ∧
    decode (.cmd32 0x44000003#32) = .ok (.metRd .sum) ∧ decode (.cmd32 0x44000004#32) = .ok (.metRd .hcnt) := by decide

/-- The frames `01 E8 03 89` (R72), `02 00 00 D6` (R73) and `F4 01 64 00 96 00 06 04` (95_test_vectors.md section 3.2) as
words, byte k at bits 8k+7 to 8k (R76). -/
theorem test_decode_wire : decode (.wire4 0x8903E801#32) = .ok (.setspeed 1000#16 0x89#8) ∧
    decode (.wire4 0xD6000002#32) = .ok .telemreq ∧
    decode (.wire8 0x04060096006401F4#64) = .ok (.telemetry 500#16 100#16 150#16 6#8 0x04#8) := by decide

/-- R88 (a) to (e): each check refuses, by its name; the words are those of 95_test_vectors.md section 6.4 and their like. -/
theorem test_decode_rejects : decode (.cmd32 0x50000000#32) = .error .unknownOp ∧
    decode (.cmd32 0x21010000#32) = .error .reservedBits ∧ decode (.cmd32 0x32000001#32) = .error .operandForNone ∧
    decode (.cmd32 0x11000100#32) = .error .byteTooWide ∧ decode (.cmd32 0x33000005#32) = .error .selectorRange ∧
    decode (.cmd32 0x44010004#32) = .error .reservedBits ∧ decode (.cmd32 0x44008000#32) = .error .selectorRange ∧
    decode (.wire4 0xD6000003#32) = .error .unknownFrame ∧ decode (.wire4 0xD7000002#32) = .error .unknownFrame := by decide

/-- 95_test_vectors.md section 3.1: the SetSpeed frames of 0, 255, 256 and 65535 as words. -/
theorem test_encode_wire : encode (.setspeed 0#16 0x6B#8) = .wire4 0x6B000001#32 ∧
    encode (.setspeed 255#16 0xBC#8) = .wire4 0xBC00FF01#32 ∧ encode (.setspeed 256#16 0x6C#8) = .wire4 0x6C010001#32 ∧
    encode (.setspeed 65535#16 0x4F#8) = .wire4 0x4FFFFF01#32 ∧ encode .telemreq = .wire4 0xD6000002#32 := by decide

/-- Log 6: how words of the opcode table are read, and where a command word wins. -/
theorem test_table_words : decodeTableWord 32 0x11000000 = some (.ckAbs 0#8) ∧
    decodeTableWord 32 0x00000001 = some (.setspeed 0#16 0#8) ∧ decodeTableWord 32 0xD6000002 = some .telemreq ∧
    decodeTableWord 64 0 = some (.telemetry 0#16 0#16 0#16 0#8 0#8) ∧ decodeTableWord 32 0x21010000 = none := by
  decide +kernel

/-! ### WellFormed -/

/-- The checksum byte of a SetSpeed frame: right is well formed, wrong is refused (R75). -/
theorem test_wf_setspeed : (Instr.setspeed 1000#16 0x89#8).wf = true ∧ (Instr.setspeed 1000#16 0x88#8).wf = false ∧
    (Instr.setspeed 0#16 0#8).wf = false := by decide +kernel

/-- The checksum byte of a telemetry frame: right is well formed, wrong is refused (R75). -/
theorem test_wf_telemetry : (Instr.telemetry 500#16 100#16 150#16 6#8 0x04#8).wf = true ∧
    (Instr.telemetry 500#16 100#16 150#16 6#8 0x05#8).wf = false ∧
    (Instr.telemetry 0#16 0#16 0#16 0#8 0#8).wf = true := by decide +kernel

/-! ### The checksum function: 95_test_vectors.md sections 2.1 and 2.2 -/

/-- The first two rows of the trace of 0xE8 from 0x07, and its result. -/
theorem test_crc_trace : crc8Bit 0x07#8 0xE8#8 = (0x09#8, 0xD0#8) ∧ crc8Bit 0x09#8 0xD0#8 = (0x15#8, 0xA0#8) ∧
    crc8Byte 0x07#8 0xE8#8 = 0x83#8 := by decide

/-- Messages of the table: the nine digits, the TelemetryRequest payload, the telemetry payload, a trailing zero. -/
theorem test_crc_messages : crc8 [0x31, 0x32, 0x33, 0x34, 0x35, 0x36, 0x37, 0x38, 0x39] = 0xF4#8 ∧
    crc8 [0x02, 0x00, 0x00] = 0xD6#8 ∧ crc8 [0xF4, 0x01, 0x64, 0x00, 0x96, 0x00, 0x06] = 0x04#8 ∧
    crc8 [0x01, 0x00] = 0x15#8 ∧ crc8 [] = 0x00#8 := by decide +kernel

/-! ### One step of each instruction -/

/-- SYS.RST from a state with everything set: EILL, history and outcome go (43_system.md R181). -/
theorem test_sysRst : after (exec .sysRst { measured with eill := true, crc := 0x89#8 })
    (fun t => (t.eill, t.h, t.outcome, t.crc, t.out)) = some (false, [], .none, 0x00#8, [⟨.ok, 0#32⟩]) := by decide +kernel

/-- SYS.STAT, the example of R182: OUTCOME 3, MVALID 1, HCNT 10 is 0x00000A0B. -/
theorem test_sysStat : answer .sysStat { measured with snew := false } = some [⟨.ok, 0x00000A0B#32⟩] := by decide +kernel

/-- SYS.STAT near the end of 95_test_vectors.md section 6.4: EILL 1, HCNT 1, OUTCOME 1. -/
theorem test_sysStat_eill : answer .sysStat { withHistory [150#16] State.reset with outcome := .incomplete, eill := true } =
    some [⟨.ok, 0x00010101#32⟩] := by decide +kernel

/-- CK.CLR, the example of R105. -/
theorem test_ckClr : after (exec .ckClr { State.reset with crc := 0x89#8 }) (fun t => (t.crc, t.out)) =
    some (0x00#8, [⟨.ok, 0#32⟩]) := by decide

/-- CK.ABS, the examples of R106 and of 95_test_vectors.md section 2.1. -/
theorem test_ckAbs : after (exec (.ckAbs 0x01#8) State.reset) (fun t => (t.crc, t.out)) =
      some (0x07#8, [⟨.ok, 0x07#32⟩]) ∧
    after (exec (.ckAbs 0xE8#8) { State.reset with crc := 0x07#8 }) (fun t => t.crc) = some 0x83#8 := by decide +kernel

/-- CK.RD answers and keeps (R107). -/
theorem test_ckRd : after (exec .ckRd { State.reset with crc := 0xD6#8 }) (fun t => (t.crc, t.out)) =
    some (0xD6#8, [⟨.ok, 0x000000D6#32⟩]) := by decide

/-- ENC.SPD, rows of 95_test_vectors.md section 3.1 with the low byte first. -/
theorem test_encSpd : answer (.encSpd 0x1234#16) State.reset = some [⟨.ok, 0xB8123401#32⟩] ∧
    answer (.encSpd 1000#16) { State.reset with crc := 0xFF#8 } = some [⟨.ok, 0x8903E801#32⟩] := by decide +kernel

/-- ENC.TRQ, its row of the same table. -/
theorem test_encTrq : answer .encTrq { State.reset with crc := 0xFF#8 } = some [⟨.ok, 0xD6000002#32⟩] := by decide +kernel

/-- RX.CLR clears the overflow value too (R126). -/
theorem test_rxClr : after (exec .rxClr (received good 9#4)) (fun t => (t.rxn, t.rxb)) = some (0#4, good) := by decide

/-- RX.PUSH of the eighth byte is stored at index 7 (R127). -/
theorem test_rxPush : after (exec (.rxPush 0xAA#8) (received good 7#4)) (fun t => (t.rxn, t.rxb[7], t.rxb[6], t.out)) =
    some (8#4, 0xAA#8, 0x06#8, [⟨.ok, 8#32⟩]) := by decide +kernel

/-- RX.PUSH of a ninth byte is dropped (R128). -/
theorem test_rxPush_full : after (exec (.rxPush 0xAA#8) (received good 8#4)) (fun t => (t.rxn, t.rxb, t.out)) =
    some (9#4, good, [⟨.rxFull, 9#32⟩]) := by decide +kernel

/-- DEC of the example frame of R135. -/
theorem test_dec_valid : after (exec .dec (received good 8#4))
      (fun t => (t.duty, t.ref, t.avg, t.mstate)) = some (500#16, 100#16, 150#16, 6#8) ∧
    after (exec .dec (received good 8#4)) (fun t => (t.outcome, t.snew, t.rxn, t.out)) =
      some (.valid, true, 0#4, [⟨.ok, 0#32⟩]) := by decide +kernel

/-- DEC with byte 4 changed (95_test_vectors.md section 3.3) and with nine bytes (section 3.4). -/
theorem test_dec_failures : answer .dec (received (good.set 4 0x97#8) 8#4) = some [⟨.ckMismatch, 0x00006F04#32⟩] ∧
    answer .dec (received good 9#4) = some [⟨.incomplete, 9#32⟩] := by decide +kernel

/-- SMP.RD 2 after that decode (R136), and after a failed one. -/
theorem test_smpRd : answer (.smpRd .avg) sampled = some [⟨.ok, 0x00000096#32⟩] ∧
    answer (.smpRd .avg) { sampled with outcome := .ckMismatch } = some [⟨.noSample, 0#32⟩] := by decide

/-- SMP.RD 4 of code 99, whatever the table (R142). -/
theorem test_smpRd_unknown : answer (.smpRd .motorClass) { sampled with mstate := 99#8 } =
    some [⟨.ok, 0x0000630F#32⟩] := by decide

/-- SMP.ACC, the example of R160: the tenth sample gives the metric. -/
theorem test_smpAcc : after (exec .smpAcc (withHistory (List.replicate 9 100#16) sampled))
      (fun t => (t.h, t.hcnt, t.sum, t.out)) = some (tenEntries, 10#6, 1050#22, [⟨.ok, 0x0000000A#32⟩]) ∧
    after (exec .smpAcc (withHistory (List.replicate 9 100#16) sampled))
      (fun t => (t.devn, t.pctm, t.pctr, t.mvalid, t.snew)) = some (450#22, 4286#32, 4500#32, true, false) := by
  decide +kernel

/-- SMP.ACC of a first sample: appended, no metric (95_test_vectors.md section 6.4), and nothing without a new sample. -/
theorem test_smpAcc_first : answer .smpAcc sampled = some [⟨.noMetric, 1#32⟩] ∧
    answer .smpAcc { sampled with snew := false } = some [⟨.noSample, 0#32⟩] := by decide +kernel

/-- HS.PUSH onto a full history (95_test_vectors.md section 6.5): the oldest goes, SUM follows, the metric is dropped. -/
theorem test_hsPush : after (exec (.hsPush 0#16)
      { withHistory ((List.range' 2 50).map (BitVec.ofNat 16)) State.reset with mvalid := true })
    (fun t => ((t.h.head?, t.h.getLast?, t.hcnt), t.sum, t.mvalid, t.out)) =
    some ((some 3#16, some 0#16, 50#6), 1323#22, false, [⟨.ok, 0x32#32⟩]) := by decide +kernel

/-- HS.MET 26 over 2 to 51 (the same program). -/
theorem test_hsMet : after (exec (.hsMet 26#16) (withHistory ((List.range' 2 50).map (BitVec.ofNat 16)) State.reset))
    (fun t => (t.pctm, t.pctr, t.devn)) = some (0x241D#32, 0x24CF#32, 1225#22) := by decide +kernel

/-- HS.MET rounds an exact half upward (42_history.md R168 (e)). -/
theorem test_hsMet_half : after (exec (.hsMet 32#16) (withHistory tenEntries State.reset)) (fun t => t.pctr) =
    some 14063#32 := by decide +kernel

/-- HS.RD of the newest entry and one past it (R166). -/
theorem test_hsRd : answer (.hsRd 9#16) (withHistory tenEntries State.reset) = some [⟨.ok, 0x96#32⟩] ∧
    answer (.hsRd 10#16) (withHistory tenEntries State.reset) = some [⟨.range, 0#32⟩] := by decide +kernel

/-- MET.RD, the example of R167, and without a metric. -/
theorem test_metRd : answer (.metRd .devn) measured = some [⟨.ok, 0x000001C2#32⟩] ∧
    answer (.metRd .devn) { measured with mvalid := false } = some [⟨.noMetric, 0#32⟩] ∧
    answer (.metRd .sum) { measured with mvalid := false } = some [⟨.ok, 0x0000041A#32⟩] := by decide +kernel

/-- A SetSpeed frame on the link, in wire order (R72). -/
theorem test_setspeed : after (exec (.setspeed 1000#16 0x89#8) State.reset) (fun t => (t.sent, t.out)) =
    some ([0x01#8, 0xE8#8, 0x03#8, 0x89#8], []) := by decide +kernel

/-- A TelemetryRequest frame on the link (R73). -/
theorem test_telemreq : after (exec .telemreq State.reset) (fun t => t.sent) =
    some [0x02#8, 0x00#8, 0x00#8, 0xD6#8] := by decide +kernel

/-- A telemetry frame whose six field bytes all differ (95_test_vectors.md section 3.2, row 5). -/
theorem test_telemetry : after (exec (.telemetry 258#16 772#16 1286#16 99#8 0x37#8) State.reset)
    (fun t => ((t.rxb, t.mstate, t.outcome, t.out.length), t.duty, t.ref, t.avg)) =
    some ((unknownState, 99#8, .valid, 9), 258#16, 772#16, 1286#16) := by decide +kernel

/-- An illegal word only sets EILL (R88). -/
theorem test_illegal_step : after (step (presented [0x32000001#32])) (fun t => (t.eill, t.out, t.rxn)) =
    some (true, [⟨.illegal, 0#32⟩], 0#4) := by decide +kernel

/-- A response word is the status above the data (30_encoding.md R79, R86). -/
theorem test_response_word : responseWord ⟨.ckMismatch, 0x6F04#32⟩ = 0x0200006F04#40 ∧
    responseWord ⟨.illegal, 0#32⟩ = 0xFF00000000#40 := by decide

/-- The example line of 30_encoding.md R91, with its operand in decimal, and the expected lengths of 41_codec.md R125. -/
theorem test_notation : asmLine (.ckAbs 2#8) = "CK.ABS 2" ∧ asmLine .dec = "DEC" ∧ rlen 0x01#8 = some 0 ∧
    rlen 0x02#8 = some 8 ∧ rlen 0x03#8 = none := by decide +kernel

/-! ### Witnesses: states that meet the invariant -/

/-- A step answers a next state when the next input decodes. -/
theorem step_answers {s : State} {e : Encoding} {rest : List Input} {i : Instr} (hp : s.port = .present e :: rest)
    (hd : decode e = .ok i) : ∃ t, step s = .next t := by
  obtain ⟨t, ht⟩ := exec_total i { s with port := rest }
  exact ⟨t, by simp [step, takeNext, takeInput, takeEncoding, hp, hd, ht]⟩


/-- The sampled state meets the invariant, and its history is empty. -/
theorem witness_inv_sampled : sampled.Inv :=
  ⟨by decide, by decide, rfl, rfl, fun _ => rfl, nofun, nofun, nofun, nofun, nofun⟩

/-- Nine entries and a new sample: the next `SMP.ACC` is the tenth. -/
theorem witness_inv_nine : (withHistory (List.replicate 9 100#16) sampled).Inv :=
  ⟨by decide, by decide, rfl, by decide +kernel, fun _ => rfl, nofun, nofun, nofun, nofun, nofun⟩

/-- Eight entries: the next one is the ninth, with no metric. -/
theorem witness_inv_eight : (withHistory (List.replicate 8 100#16) sampled).Inv :=
  ⟨by decide, by decide, rfl, by decide +kernel, fun _ => rfl, nofun, nofun, nofun, nofun, nofun⟩

/-- Ten entries and their metric. -/
theorem witness_inv_measured : measured.Inv :=
  ⟨by decide, by decide, rfl, by decide +kernel, fun _ => rfl, fun _ => by decide, fun _ => by decide +kernel,
    fun _ => by decide +kernel, fun _ => ⟨100#16, by decide +kernel⟩, nofun⟩

/-- Forty-nine entries: one more fits. -/
theorem witness_inv_fortyNine : (withHistory (List.replicate 49 65535#16) sampled).Inv :=
  ⟨by decide, by decide, rfl, by decide +kernel, fun _ => rfl, nofun, nofun, nofun, nofun, nofun⟩

/-- Fifty entries of the greatest value: the next push evicts. -/
theorem witness_inv_fifty : (withHistory (List.replicate 50 65535#16) sampled).Inv :=
  ⟨by decide, by decide, rfl, by decide +kernel, fun _ => rfl, nofun, nofun, nofun, nofun, nofun⟩

/-! ### Witnesses: the hypotheses of the obligations, in their order -/

/-- Each of the four ports: an encoding that decodes, nothing, the reset input, a 4-byte frame that is none of the table's. -/
theorem witness_StepRunsTheDecodedInstruction :
    (presented [0x11000001#32]).port = .present (.cmd32 0x11000001#32) :: [] ∧
    decode (.cmd32 0x11000001#32) = .ok (.ckAbs 1#8) ∧ State.reset.port = [] ∧
    ({ State.reset with port := [.hardReset] } : State).port = .hardReset :: [] ∧
    ({ State.reset with port := [.present (.wire4 0x00000003#32)] } : State).port = .present (.wire4 0x00000003#32) :: [] ∧
    (0x00000003#32).extractLsb' 0 8 ≠ 0x01#8 ∧ 0x00000003#32 ≠ 0xD6000002#32 := by decide

/-- A command word, a frame that reads as one of a command's length, and an 8-byte frame. -/
theorem witness_FetchedTableWordRuns : decodeTableWord 32 0x44000004 = some (.metRd .hcnt) ∧
    decodeTableWord 32 0x8903E801 = some (.setspeed 1000#16 0x89#8) ∧
    decodeTableWord 64 0x04060096006401F4 = some (.telemetry 500#16 100#16 150#16 6#8 0x04#8) := by decide +kernel

/-- Each format has encodings that decode. -/
theorem witness_EncodeOfDecode : decode (.cmd32 0x43000031#32) = .ok (.hsRd 49#16) ∧
    decode (.wire4 0x00000001#32) = .ok (.setspeed 0#16 0#8) ∧
    decode (.wire8 0#64) = .ok (.telemetry 0#16 0#16 0#16 0#8 0#8) := by decide

/-- One word for each of R88 (a) to (e), at the edge of its range, and legal neighbours. -/
theorem witness_IllegalWordsOnlySetEill : IllegalWord 0x45000000#32 ∧ IllegalWord 0x21010000#32 ∧
    IllegalWord 0x02000001#32 ∧ IllegalWord 0x31000100#32 ∧ IllegalWord 0x33000005#32 ∧ IllegalWord 0x4400FFFF#32 ∧
    ¬ IllegalWord 0x02000000#32 ∧ ¬ IllegalWord 0x310000FF#32 ∧ ¬ IllegalWord 0x33000004#32 ∧
    ¬ IllegalWord 0x4300FFFF#32 ∧
    (presented [0x45000000#32]).port = .present (.cmd32 0x45000000#32) :: [] := by
  refine ⟨?_, ?_, ?_, ?_, ?_, ?_, ?_, ?_, ?_, ?_, rfl⟩ <;> (unfold IllegalWord; decide +kernel)

/-- The premises of `TakesNoOperand`, `TakesByte`, `TakesHalf` and `TakesSelector`, by each of their alternatives. -/
theorem witness_operand_forms :
    ((0x01000001#32).extractLsb' 24 8 = 0x01#8 ∧ (0x01000001#32).extractLsb' 0 16 ≠ 0#16) ∧
    ((0x01800000#32).extractLsb' 24 8 = 0x01#8 ∧ (0x01800000#32).extractLsb' 16 8 ≠ 0#8) ∧
    ((0x11000100#32).extractLsb' 24 8 = 0x11#8 ∧ (0x11000100#32).extractLsb' 8 8 ≠ 0#8) ∧
    ((0x21010000#32).extractLsb' 24 8 = 0x21#8 ∧ (0x21010000#32).extractLsb' 16 8 ≠ 0#8) ∧
    ((0x33000005#32).extractLsb' 24 8 = 0x33#8 ∧ 4 < ((0x33000005#32).extractLsb' 0 16).toNat) ∧
    ((0x44010000#32).extractLsb' 24 8 = 0x44#8 ∧ (0x44010000#32).extractLsb' 16 8 ≠ 0#8) := by decide

/-- A state with command words presented, legal and illegal ones. -/
theorem witness_EveryCommandWordHasOneResponse :
    (presented [0x00000000#32, 0x32000000#32]).port = command 0x00000000#32 :: [command 0x32000000#32] := by decide

/-- The same port as a list of command words and what stands behind them. -/
theorem witness_CommandSequencesRunToCompletion :
    (presented [0x00000000#32, 0x32000000#32]).port = [0x00000000#32, 0x32000000#32].map command ++ [] := by decide

/-- A state that meets the invariant and whose step answers a next state: `SMP.ACC` presented to nine entries and a sample. -/
theorem witness_EveryStepKeepsTheInvariant :
    ({ withHistory (List.replicate 9 100#16) sampled with port := [command 0x40000000#32] } : State).Inv ∧
    ∃ t, step { withHistory (List.replicate 9 100#16) sampled with port := [command 0x40000000#32] } = .next t :=
  ⟨⟨by decide, by decide, rfl, by decide +kernel, fun _ => rfl, nofun, nofun, nofun, nofun, nofun⟩,
    step_answers rfl (i := .smpAcc) (by decide)⟩

/-- A state with the reset registers that is not the reset state. -/
theorem witness_ResetStateIsAsSpecified :
    SameRegisters State.reset { State.reset with out := [⟨.ok, 0#32⟩], sent := [0x01#8] } := by
  simp [SameRegisters, SameBuffer, SameSample, SameHistory, SameMetric]

/-- A run of SYS.RST and SYS.STAT, and another instruction that answers from an invariant state with EILL set. -/
theorem witness_SysRstRestoresTheResetState :
    (presented [0x01000000#32, 0x02000000#32]).port = command 0x01000000#32 :: command 0x02000000#32 :: [] ∧
    ({ measured with eill := true } : State).Inv ∧ ({ measured with eill := true } : State).eill = true ∧
    (∃ t, exec (.hsPush 1#16) { measured with eill := true } = .next t) ∧ Instr.hsPush 1#16 ≠ .sysRst :=
  ⟨rfl, ⟨by decide, by decide, rfl, by decide +kernel, fun _ => rfl, fun _ => by decide, fun _ => by decide +kernel,
    fun _ => by decide +kernel, fun _ => ⟨100#16, by decide +kernel⟩, nofun⟩, rfl, ⟨_, rfl⟩, by decide⟩

/-- An illegal SYS.STAT before a legal one, and the state of the rule's example. -/
theorem witness_SysStatShowsEveryField : (0x02000001#32).extractLsb' 24 8 = 0x02#8 ∧ 0x02000001#32 ≠ 0x02000000#32 ∧
    (presented [0x02000001#32, 0x02000000#32]).port = command 0x02000001#32 :: command 0x02000000#32 :: [] ∧
    ({ measured with snew := false } : State).outcome = .valid ∧ ({ measured with snew := false } : State).snew = false ∧
    ({ measured with snew := false } : State).mvalid = true ∧ ({ measured with snew := false } : State).rxn = 0#4 ∧
    ({ measured with snew := false } : State).hcnt = 10#6 ∧ ({ measured with snew := false } : State).eill = false := by
  decide

/-- The two ports of the CK.RD runs. -/
theorem witness_CkRdAnswersTheChecksum :
    (presented [0x10000000#32, 0x12000000#32]).port = command 0x10000000#32 :: command 0x12000000#32 :: [] ∧
    (presented [0x10000000#32, 0x11000002#32, 0x11000000#32, 0x11000000#32, 0x12000000#32]).port =
      [0x10000000#32, 0x11000002#32, 0x11000000#32, 0x11000000#32, 0x12000000#32].map command ++ [] := by decide

/-- Messages of one length, and two different bytes. -/
theorem witness_ChecksumIsLinearAndSeesOneByte : ([0x01#8, 0x02#8] : List Byte).length = ([0xFF#8, 0x00#8] : List Byte).length ∧
    0xF4#8 ≠ 0xF5#8 := by decide

/-- A list of operations without a clear, presented. -/
theorem witness_ChecksumIsTheFoldOfAbsorbedBytes :
    (∀ i ∈ [Instr.ckAbs 2#8, .encSpd 1000#16, .dec, .ckAbs 0#8], IsOperation i ∧ i ≠ .ckClr ∧ i ≠ .sysRst) ∧
    ({ State.reset with port := asInputs [.ckAbs 2#8, .encSpd 1000#16, .dec, .ckAbs 0#8] } : State).port =
      asInputs [.ckAbs 2#8, .encSpd 1000#16, .dec, .ckAbs 0#8] ++ [] := by
  refine ⟨?_, by decide⟩
  intro i hi
  simp only [List.mem_cons, List.not_mem_nil, or_false] at hi
  rcases hi with rfl | rfl | rfl | rfl <;> exact ⟨⟨_, rfl⟩, by decide, by decide⟩

/-- Instructions that answer a next state; the three codec operations among them. -/
theorem witness_CodecDoesNotTouchTheChecksumRegister : (∃ t, exec .ckClr sampled = .next t) ∧
    (∃ t, exec (.encSpd 1000#16) sampled = .next t) ∧ (∃ t, exec .encTrq sampled = .next t) ∧
    (∃ t, exec .dec (received good 8#4) = .next t) :=
  ⟨exec_total _ _, exec_total _ _, exec_total _ _, exec_total _ _⟩

/-- Room for one byte, at both ends of the range. -/
theorem witness_RxPushStoresOneByte : (received good 0#4).rxn.toNat < 8 ∧ (received good 7#4).rxn.toNat < 8 ∧
    (received good 0#4).rxn = 0#4 := by decide

/-- A full buffer and an overrun one. -/
theorem witness_RxPushWhenFullDropsTheByte : 8 ≤ (received good 8#4).rxn.toNat ∧ 8 ≤ (received good 9#4).rxn.toNat := by
  decide

/-- Lengths beside 8 on both sides, a wrong last byte, a right one. -/
theorem witness_DecTestsLengthThenChecksum : (received good 7#4).rxn ≠ 8#4 ∧ (received good 9#4).rxn ≠ 8#4 ∧
    (received good 8#4).rxn = 8#4 ∧ crc8 (rxPayload (good.set 7 0x05#8)) = 0x04#8 ∧ 0x04#8 ≠ (good.set 7 0x05#8)[7] ∧
    crc8 (rxPayload good) = good[7] := by decide +kernel

/-- The ends of the lengths that are INCOMPLETE, and a decode before a second one. -/
theorem witness_DecIncompleteHidesTheSample : (received good 0#4).rxn.toNat ≤ 7 ∧ (received good 7#4).rxn.toNat ≤ 7 ∧
    (received good 9#4).rxn.toNat = 9 ∧ ∃ t, exec .dec (received good 8#4) = .next t :=
  ⟨by decide, by decide, by decide, exec_total _ _⟩

/-- A frame with a wrong last byte; a valid one and a different byte at its first and last place. -/
theorem witness_DecMismatchSeesEverySingleByteChange : (received (good.set 7 0x05#8) 8#4).rxn = 8#4 ∧
    crc8 (rxPayload (good.set 7 0x05#8)) ≠ (good.set 7 0x05#8)[7] ∧ crc8 (rxPayload good) = good[7] ∧
    0xF5#8 ≠ good[0] ∧ 0x05#8 ≠ good[7] := by decide +kernel

/-- A valid frame, the all-zero frame and the frame of the example. -/
theorem witness_DecValidLoadsTheSample : (received unknownState 8#4).rxn = 8#4 ∧
    crc8 (rxPayload unknownState) = unknownState[7] ∧ (received (Vector.replicate 8 0x00#8) 8#4).rxb = Vector.replicate 8 0x00#8 ∧
    (received good 8#4).rxb = #v[0xF4#8, 0x01#8, 0x64#8, 0x00#8, 0x96#8, 0x00#8, 0x06#8, 0x04#8] := by decide +kernel

/-- The received bytes of the witness for whole exchanges: eight with a right last byte, eight with a wrong one, four. -/
theorem witness_ReceivedFrameDecodes :
    (∀ bytes : List Byte, ({ State.reset with port := command 0x30000000#32 ::
      (bytes.map (fun b => command (0x31000000#32 ||| b.setWidth 32)) ++ command 0x32000000#32 :: []) } : State).port =
        command 0x30000000#32 :: (bytes.map (fun b => command (0x31000000#32 ||| b.setWidth 32)) ++
          command 0x32000000#32 :: [])) ∧
    ([0x02#8, 0x00#8, 0x00#8, 0xD6#8] : List Byte).length ≠ 8 ∧ (rxPayload good).length = 7 ∧
    good.toList = rxPayload good ++ [0x04#8] ∧ crc8 (rxPayload good) = 0x04#8 ∧
    (good.set 7 0x05#8).toList = rxPayload good ++ [0x05#8] ∧ crc8 (rxPayload good) ≠ 0x05#8 := by
  refine ⟨fun _ => rfl, ?_⟩
  decide +kernel

/-- Lists of seven, eight and nine bytes, and the two outcomes of the last byte. -/
theorem witness_DecodeFunctionResults : (rxPayload good).length ≠ 8 ∧ (good.toList ++ [0x00#8]).length ≠ 8 ∧
    (rxPayload good).length = 7 ∧ crc8 (rxPayload good) ≠ 0x05#8 ∧
    crc8 [0xF4#8, 0x01#8, 0x64#8, 0x00#8, 0x96#8, 0x00#8, 0x06#8] = 0x04#8 := by decide +kernel

/-- Every outcome: three that hide the sample, and the one that shows it. -/
theorem witness_SmpRdReadsOnlyAValidatedSample : State.reset.outcome ≠ .valid ∧
    ({ sampled with outcome := .incomplete } : State).outcome ≠ .valid ∧
    ({ sampled with outcome := .ckMismatch } : State).outcome ≠ .valid ∧ sampled.outcome = .valid := by decide

/-- Code 99 in a validated sample, and its frame in a full buffer. -/
theorem witness_UnknownMotorStateIsNoFailure : mstTable 99#8 = none ∧
    ({ sampled with mstate := 99#8 } : State).outcome = .valid ∧ ({ sampled with mstate := 99#8 } : State).mstate = 99#8 ∧
    (received unknownState 8#4).rxn = 8#4 ∧ crc8 (rxPayload unknownState) = unknownState[7] ∧
    mstTable unknownState[6] = none := by decide +kernel

/-- A DEC that changes the sample registers, and one that does not validate. -/
theorem witness_SampleRegistersHoldOnlyValidatedFrames : IsOperation .dec ∧ Instr.dec ≠ .sysRst ∧
    (∃ t, exec .dec (received good 8#4) = .next t ∧
      ¬ (t.duty = 0#16 ∧ t.ref = 0#16 ∧ t.avg = 0#16 ∧ t.mstate = 0#8)) ∧
    (∃ t, exec .dec (received good 9#4) = .next t ∧ t.outcome ≠ .valid) :=
  ⟨⟨_, rfl⟩, by decide, ⟨_, rfl, by decide +kernel⟩, ⟨_, rfl, by decide +kernel⟩⟩

/-- Both failed decodes: by length and by checksum. -/
theorem witness_FailedDecodeIsInvisible : (∃ t, exec .dec (received good 9#4) = .next t ∧ t.outcome ≠ .valid) ∧
    (∃ t, exec .dec (received (good.set 0 0xF5#8) 8#4) = .next t ∧ t.outcome ≠ .valid) :=
  ⟨⟨_, rfl, by decide +kernel⟩, ⟨_, rfl, by decide +kernel⟩⟩

/-- The nine words of a frame, presented. -/
theorem witness_TelemetryFrameIsNineOperations :
    (presented ([0xF4#8, 0x01#8, 0x64#8, 0x00#8, 0x96#8, 0x00#8, 0x06#8, 0x04#8].map
        (fun b => 0x31000000#32 ||| b.setWidth 32) ++ [0x32000000#32])).port =
      [loByte 500#16, hiByte 500#16, loByte 100#16, hiByte 100#16, loByte 150#16, hiByte 150#16, 6#8, 0x04#8].map
        (fun b => command (0x31000000#32 ||| b.setWidth 32)) ++ command 0x32000000#32 :: [] := by decide +kernel

/-- An empty buffer and one that is not, a well-formed frame and one that is not. -/
theorem witness_TelemetryFrameRoundTrip : State.reset.rxn = 0#4 ∧ (received good 1#4).rxn ≠ 0#4 ∧
    (Instr.telemetry 500#16 100#16 150#16 6#8 0x04#8).wf = true ∧
    (Instr.telemetry 500#16 100#16 150#16 6#8 0x05#8).wf = false := by decide +kernel

/-- Three values presented to a state of 49 entries that meets the invariant (so two are evicted), and an instruction
that changes the history. -/
theorem witness_HistoryKeepsTheLastFifty :
    ({ withHistory (List.replicate 49 65535#16) sampled with
      port := [1#16, 2#16, 3#16].map (fun v => command (0x41000000#32 ||| v.setWidth 32)) } : State).Inv ∧
    ({ withHistory (List.replicate 49 65535#16) sampled with
      port := [1#16, 2#16, 3#16].map (fun v => command (0x41000000#32 ||| v.setWidth 32)) } : State).port =
      [1#16, 2#16, 3#16].map (fun v => command (0x41000000#32 ||| (v : Half).setWidth 32)) ++ [] ∧
    (∃ t, exec .smpAcc (withHistory (List.replicate 9 100#16) sampled) = .next t) :=
  ⟨⟨by decide, by decide, rfl, by decide +kernel, fun _ => rfl, nofun, nofun, nofun, nofun, nofun⟩, by decide,
    exec_total _ _⟩

/-- The invariant with room for one entry and with none. -/
theorem witness_HsPushAppendsAndInvalidates : (withHistory (List.replicate 49 65535#16) sampled).Inv ∧
    (withHistory (List.replicate 50 65535#16) sampled).Inv := ⟨witness_inv_fortyNine, witness_inv_fifty⟩

/-- No new sample; one with eight entries before it (no metric) and one with nine (a metric); the example. -/
theorem witness_SmpAccAppendsOnceAndComputes :
    ¬ (({ sampled with snew := false } : State).outcome = .valid ∧ ({ sampled with snew := false } : State).snew = true) ∧
    (withHistory (List.replicate 8 100#16) sampled).Inv ∧ (withHistory (List.replicate 9 100#16) sampled).Inv ∧
    (withHistory (List.replicate 9 100#16) sampled).outcome = .valid ∧
    (withHistory (List.replicate 9 100#16) sampled).snew = true ∧
    (withHistory (List.replicate 9 100#16) sampled).h = List.replicate 9 100#16 ∧
    (withHistory (List.replicate 9 100#16) sampled).avg = 150#16 ∧
    (withHistory (List.replicate 9 100#16) sampled).ref = 100#16 :=
  ⟨by decide, witness_inv_eight, witness_inv_nine, rfl, rfl, rfl, rfl, rfl⟩

/-- Nine entries and ten; two computations in a row. -/
theorem witness_HsMetComputesAgainstTheReference : measured.Inv ∧ 10 ≤ measured.hcnt.toNat ∧
    (withHistory (List.replicate 9 100#16) sampled).hcnt.toNat < 10 ∧ measured.h = List.replicate 9 100#16 ++ [150#16] ∧
    (∃ t u, exec (.hsMet 100#16) measured = .next t ∧ exec (.hsMet 0#16) t = .next u) :=
  ⟨witness_inv_measured, by decide, by decide, rfl, ⟨_, _, rfl, rfl⟩⟩

/-- The newest entry, the first index past it, and the greatest index. -/
theorem witness_HsRdReadsOldestFirst : measured.Inv ∧ (9#16).toNat < measured.hcnt.toNat ∧ measured.h[9]? = some 150#16 ∧
    measured.hcnt.toNat ≤ (10#16).toNat ∧ State.reset.hcnt.toNat ≤ (0#16).toNat ∧
    measured.hcnt.toNat ≤ (65535#16).toNat := ⟨witness_inv_measured, by decide, by decide, by decide, by decide, by decide⟩

/-- A metric that holds and one that does not, over a history that is not empty. -/
theorem witness_MetRdReadsAMetricOnlyWhileValid : measured.mvalid = true ∧ State.reset.mvalid = false ∧ measured.Inv ∧
    0 < measured.hcnt.toNat ∧ sampled.mvalid = false := ⟨rfl, rfl, witness_inv_measured, by decide, rfl⟩

/-- A validated, new sample. -/
theorem witness_SmpAccIsPushThenMetric : sampled.outcome = .valid ∧ sampled.snew = true := by decide

/-- A step from the invariant after which each of the three metric registers is answered. -/
theorem witness_MetricIsNeverStale : measured.Inv ∧ step measured = .next measured ∧
    (∃ u, exec (.metRd .pctm) measured = .next u ∧ u.out = measured.out ++ [⟨.ok, 4286#32⟩]) ∧
    (∃ u, exec (.metRd .pctr) measured = .next u ∧ u.out = measured.out ++ [⟨.ok, 4500#32⟩]) ∧
    (∃ u, exec (.metRd .devn) measured = .next u ∧ u.out = measured.out ++ [⟨.ok, 450#32⟩]) :=
  ⟨witness_inv_measured, rfl, ⟨_, rfl, rfl⟩, ⟨_, rfl, rfl⟩, ⟨_, rfl, rfl⟩⟩

/-- A divisor, a history of fifty and the greatest divisor. -/
theorem witness_RndRoundsToNearestHalfUp : 0 < 1 ∧ (List.replicate 50 65535#16).length ≤ 50 ∧ 50 * 65535 ≤ 50 * 65535 := by
  decide

/-- An entry of a history, and its greatest and least entries. -/
theorem witness_DevnIsTheGreatestDeviation : 150#16 ∈ tenEntries ∧ tenEntries ≠ [] ∧ 100#16 ∈ tenEntries ∧
    (∀ x ∈ tenEntries, (100#16).toNat ≤ x.toNat ∧ x.toNat ≤ (150#16).toNat) := by
  simp [tenEntries]

/-- A positive sum, a zero sum, and fifty entries. -/
theorem witness_PctmFormulaAndRange : 0 < (tenEntries.map BitVec.toNat).sum ∧
    ((List.replicate 10 0#16).map BitVec.toNat).sum = 0 ∧ (List.replicate 50 1#16).length ≤ 50 := by decide +kernel

/-- The least positive reference, and fifty entries. -/
theorem witness_PctrFormulaAndRange : 0 < (1#16).toNat ∧ (List.replicate 50 1#16).length ≤ 50 := by decide

/-- A history that is not empty. -/
theorem witness_PercentagesAreCorrectlyRounded : tenEntries ≠ [] := by decide

/-- The example's entries in another order. -/
theorem witness_MetricIgnoresTheOrderOfEntries : tenEntries.Perm (150#16 :: List.replicate 9 100#16) := by decide +kernel

/-- The three cases of a decode, with lengths beside 8 on both sides; an accepted sample; a metric computed twice from the
invariant, and one from it with nine entries. -/
theorem witness_ReadsChangeNothing : (∃ t, exec .dec (received good 8#4) = .next t) ∧
    (received good 7#4).rxn ≠ 8#4 ∧ (received good 9#4).rxn ≠ 8#4 ∧ (received good 8#4).rxn = 8#4 ∧
    crc8 (rxPayload (good.set 7 0x05#8)) ≠ (good.set 7 0x05#8)[7] ∧ crc8 (rxPayload good) = good[7] ∧
    (∃ t, exec .smpAcc sampled = .next t) ∧ sampled.outcome = .valid ∧ sampled.snew = true ∧
    measured.Inv ∧ measured.hcnt.toNat = 10 ∧ (withHistory (List.replicate 9 100#16) sampled).Inv ∧
    (withHistory (List.replicate 9 100#16) sampled).hcnt.toNat < 10 ∧
    (∃ t u, exec (.hsMet 100#16) measured = .next t ∧ exec (.hsMet 100#16) t = .next u) :=
  ⟨exec_total _ _, by decide, by decide, rfl, by decide +kernel, by decide +kernel, exec_total _ _, rfl, rfl,
    witness_inv_measured, by decide, witness_inv_nine, by decide, ⟨_, _, rfl, rfl⟩⟩

/-- A step that sets EILL, and one that clears it by each of the two resets. -/
theorem witness_EillIsSetByIllegalOnly :
    (∃ t, step (presented [0x00000000#32]) = .next t ∧ (presented [0x00000000#32]).eill = false ∧ t.eill = true) ∧
    (∃ t, step { presented [0x01000000#32] with eill := true } = .next t ∧ t.eill = false) ∧
    (∃ t, step { State.reset with port := [.hardReset], eill := true } = .next t ∧ t.eill = false) ∧
    IllegalWord 0x00000000#32 :=
  ⟨⟨_, rfl, rfl, rfl⟩, ⟨_, rfl, rfl⟩, ⟨_, rfl, rfl⟩, by simp only [IllegalWord]; decide⟩

/-- A run that ends with EILL clear, from what it evaluates to. -/
theorem eill_clear_after {k : Nat} {s : State} (h : (runSteps k s).map (fun t => t.eill) = some false) :
    ∃ t, RunsTo k s t ∧ t.eill = false := Option.map_eq_some_iff.1 h

/-- A run of legal words that ends with EILL clear. -/
theorem witness_EillZeroAtTheEndMeansEveryWordWasLegal :
    (presented [0x41000064#32, 0x02000000#32]).port = [0x41000064#32, 0x02000000#32].map command ++ [] ∧
    (∀ w ∈ [0x41000064#32, 0x02000000#32], w ≠ 0x01000000#32) ∧
    (∃ t, RunsTo 2 (presented [0x41000064#32, 0x02000000#32]) t ∧ t.eill = false) :=
  ⟨rfl, by simp, eill_clear_after (by decide +kernel)⟩

/-- The three expansions, presented, for any bytes. -/
theorem witness_PseudoOperationsDoWhatTheyAreFor : ∀ bytes : List Byte,
    (∃ s : State, s.port = command 0x10000000#32 :: (bytes.map (fun b => command (0x11000000#32 ||| b.setWidth 32)) ++
      command 0x12000000#32 :: [])) ∧
    (∃ s : State, s.port = command 0x30000000#32 :: (bytes.map (fun b => command (0x31000000#32 ||| b.setWidth 32)) ++ [])) ∧
    (∃ s : State, s.port = command 0x30000000#32 :: (bytes.map (fun b => command (0x31000000#32 ||| b.setWidth 32)) ++
      command 0x32000000#32 :: command 0x40000000#32 :: [])) :=
  fun _ => ⟨⟨{ State.reset with port := _ }, rfl⟩, ⟨{ State.reset with port := _ }, rfl⟩, ⟨{ State.reset with port := _ }, rfl⟩⟩

end Sys2Proof.Tests
end

/-! SUPPORT. What one instruction can do, said once: an instruction that completes has one of the effects below, and
what it leaves unchanged is read off its effect. -/

namespace Sys2Proof.Machine

/-- The seven operations that change no register in any state. -/
def reads : Instr → Bool
  | .sysStat | .ckRd | .encSpd _ | .encTrq | .smpRd _ | .hsRd _ | .metRd _ => true
  | _ => false

/-- `Effect s i t`: the instruction `i` may take the state `s` to `t`. The seven reading operations share the
constructor `answer`, a response and no other change. -/
inductive Effect (s : State) : Instr → State → Prop where
  | sysRst : Effect s .sysRst (respond .ok 0#32 (resetBlock s))
  | answer (i : Instr) (hi : reads i = true) (st : Status) (d : Word) : Effect s i (respond st d s)
  | ckClr : Effect s .ckClr (respond .ok 0#32 { s with crc := Config.init })
  | ckAbs (b : Byte) :
      Effect s (.ckAbs b) (respond .ok ((crc8Byte s.crc b).setWidth 32) { s with crc := crc8Byte s.crc b })
  | rxClr : Effect s .rxClr (respond .ok 0#32 (emptyBuffer s))
  | rxPush (b : Byte) : Effect s (.rxPush b) (pushByte b s)
  | dec : Effect s .dec (decodeBuffer s)
  | noSample (hs : ¬ (s.outcome = .valid ∧ s.snew = true)) : Effect s .smpAcc (raiseStatus .noSample 0#32 s)
  | smpAcc (hv : s.outcome = .valid) (hn : s.snew = true) :
      Effect s .smpAcc (answerMetric (metricUpdate s.ref (clearSnew (histPush s.avg s))))
  | hsPush (v : Half) :
      Effect s (.hsPush v) (respond .ok ((histPush v s).hcnt.setWidth 32) (clearMvalid (histPush v s)))
  | hsMet (ref : Half) : Effect s (.hsMet ref) (answerMetric (metricUpdate ref s))
  | setspeed (rpm : Half) (crc : Byte) :
      Effect s (.setspeed rpm crc) (putOnLink (cmdPayload Config.kindSetSpeed rpm ++ [crc]) s)
  | telemreq : Effect s .telemreq (putOnLink (cmdframe Config.kindTelemReq 0#16) s)
  | telemetry (duty ref avg : Half) (mstate crc : Byte) : Effect s (.telemetry duty ref avg mstate crc)
      (decodeBuffer ((telemetryBytes duty ref avg mstate crc).foldl (fun t b => pushByte b t) s))

/-- An instruction that completes has its effect. -/
theorem effect_of_exec {i : Instr} {s t : State} (h : exec i s = .next t) : Effect s i t := by
  cases i with
  | sysRst => cases h; exact .sysRst
  | sysStat => cases h; exact .answer _ rfl ..
  | ckClr => cases h; exact .ckClr
  | ckAbs b => cases h; exact .ckAbs b
  | ckRd => cases h; exact .answer _ rfl ..
  | encSpd rpm => cases h; exact .answer _ rfl ..
  | encTrq => cases h; exact .answer _ rfl ..
  | rxClr => cases h; exact .rxClr
  | rxPush b => cases h; exact .rxPush b
  | dec => cases h; exact .dec
  | smpRd f =>
    simp only [exec, execSmpRd] at h
    split at h <;> cases h <;> exact .answer _ rfl ..
  | smpAcc =>
    simp only [exec, execSmpAcc] at h
    split at h
    next hs => cases h; exact .smpAcc hs.1 hs.2
    next hs => cases h; exact .noSample hs
  | hsPush v => cases h; exact .hsPush v
  | hsMet ref => cases h; exact .hsMet ref
  | hsRd idx =>
    simp only [exec, execHsRd] at h
    split at h <;> cases h <;> exact .answer _ rfl ..
  | metRd f =>
    cases f <;> simp only [exec, execMetRd] at h
    case sum | hcnt => cases h; exact .answer _ rfl ..
    all_goals split at h <;> cases h <;> exact .answer _ rfl ..
  | setspeed rpm crc => cases h; exact .setspeed rpm crc
  | telemreq => cases h; exact .telemreq
  | telemetry duty ref avg mstate crc =>
    rw [exec, execTelemetry, Host.Outcome.next.injEq] at h
    rw [← h]
    exact .telemetry duty ref avg mstate crc

/-- What no received byte changes, no sequence of received bytes changes. -/
theorem foldl_pushByte_keeps {α : Type} (f : State → α) (hf : ∀ b s, f (pushByte b s) = f s) (bytes : List Byte)
    (s : State) : f (bytes.foldl (fun t b => pushByte b t) s) = f s := by
  induction bytes generalizing s with
  | nil => rfl
  | cons b bytes ih => exact (ih (pushByte b s)).trans (hf b s)

/-- `EILL` is written by no instruction but `SYS.RST` (10_state.md R42). -/
theorem Effect.eill_eq {i : Instr} {s t : State} (h : Effect s i t) (hi : i ≠ .sysRst) : t.eill = s.eill := by
  cases h with
  | sysRst => exact absurd rfl hi
  | telemetry duty ref avg mstate crc =>
    rw [decodeBuffer_eill]
    exact foldl_pushByte_keeps (·.eill) (fun b s => pushByte_eill b s) _ s
  | _ => simp

/-- The history changes by `SYS.RST` and by a push alone, of the operand or of the sample's speed (R34). -/
theorem Effect.h_cases {i : Instr} {s t : State} (h : Effect s i t) :
    t.h = s.h ∨ i = .sysRst ∨
      ∃ v : Half, (i = .hsPush v ∨ (i = .smpAcc ∧ v = s.avg)) ∧ t.h = (histPush v s).h := by
  cases h with
  | sysRst => exact .inr (.inl rfl)
  | smpAcc => exact .inr (.inr ⟨s.avg, .inr ⟨rfl, rfl⟩, by simp⟩)
  | hsPush v => exact .inr (.inr ⟨v, .inl rfl, by simp⟩)
  | telemetry duty ref avg mstate crc =>
    left
    rw [decodeBuffer_h]
    exact foldl_pushByte_keeps (·.h) (fun b s => pushByte_h b s) _ s
  | _ => exact .inl (by simp)

/-- An operation that is neither a decode nor a reset keeps the sample registers (R29). -/
theorem Effect.sample_eq {i : Instr} {s t : State} (h : Effect s i t) (hop : Claims.IsOperation i) (hr : i ≠ .sysRst)
    (hd : i ≠ .dec) : t.duty = s.duty ∧ t.ref = s.ref ∧ t.avg = s.avg ∧ t.mstate = s.mstate := by
  cases h with
  | sysRst => exact absurd rfl hr
  | dec => exact absurd rfl hd
  | telemetry => obtain ⟨w, hw⟩ := hop; cases hw
  | _ => simp

/-- A decode that validates found the checksum right and loads all four sample registers; any other keeps them
(R29, 41_codec.md R132). -/
theorem decodeBuffer_sample_cases (s : State) :
    ((decodeBuffer s).outcome = .valid ∧ crc8 (rxPayload s.rxb) = s.rxb[7] ∧
      (decodeBuffer s).duty = le16 s.rxb[0] s.rxb[1] ∧ (decodeBuffer s).ref = le16 s.rxb[2] s.rxb[3] ∧
      (decodeBuffer s).avg = le16 s.rxb[4] s.rxb[5] ∧ (decodeBuffer s).mstate = s.rxb[6]) ∨
    ((decodeBuffer s).outcome ≠ .valid ∧ (decodeBuffer s).duty = s.duty ∧ (decodeBuffer s).ref = s.ref ∧
      (decodeBuffer s).avg = s.avg ∧ (decodeBuffer s).mstate = s.mstate) := by
  rcases decodeBuffer_cases s with ⟨-, hd⟩ | ⟨-, -, hd⟩ | ⟨-, hc, hd⟩
  · right; simp [hd]
  · right; simp [hd]
  · left; simp [hd, hc]

/-- Without a validated sample every `SMP.RD` answers NOSAMPLE (41_codec.md R136). -/
theorem exec_smpRd_of_not_valid {s : State} (f : SampleSel) (hs : s.outcome ≠ .valid) :
    exec (.smpRd f) s = .next (raiseStatus .noSample 0#32 s) := by
  simp [exec, execSmpRd, hs]

end Sys2Proof.Machine

/-! SUPPORT. The command word decoder row by row (30_encoding.md R78, R84, R88): the words it rejects are the illegal
words, and an accepted word is the encoding of what it decodes to. -/

namespace Sys2Proof.Machine

/-! The fields of a command word are what it was built from (R78, R91). -/

@[simp] theorem opField_commandWord (op : Byte) (arg : Half) : opField (commandWord op arg) = op := by
  apply BitVec.eq_of_getLsbD_eq
  intro i hi
  interval_cases i <;> simp [opField, commandWord]

@[simp] theorem rsvField_commandWord (op : Byte) (arg : Half) : rsvField (commandWord op arg) = 0#8 := by
  apply BitVec.eq_of_getLsbD_eq
  intro i hi
  interval_cases i <;> simp [rsvField, commandWord]

@[simp] theorem argField_commandWord (op : Byte) (arg : Half) : argField (commandWord op arg) = arg := by
  apply BitVec.eq_of_getLsbD_eq
  intro i hi
  interval_cases i <;> simp [argField, commandWord]

/-- A word without reserved bits is its operation code and its operand. -/
theorem commandWord_fields {w : Word} (hr : rsvField w = 0#8) : commandWord (opField w) (argField w) = w := by
  apply BitVec.eq_of_getLsbD_eq
  intro i hi
  have hbit : i - 16 < 8 → w.getLsbD (16 + (i - 16)) = false := fun hlt => by
    simpa [rsvField, hlt] using congrArg (·.getLsbD (i - 16)) hr
  -- bit `i` is the operand's below 16, a reserved bit up to 23, the operation code's from 24 on
  simp only [commandWord, opField, argField, BitVec.getLsbD_or, BitVec.getLsbD_shiftLeft, BitVec.getLsbD_setWidth,
    BitVec.getLsbD_extractLsb']
  grind

/-- The upper byte of the operand is bits 15:8 of the word. -/
theorem argField_hi (w : Word) : (argField w).extractLsb' 8 8 = w.extractLsb' 8 8 := by
  apply BitVec.eq_of_getLsbD_eq
  intro i hi
  interval_cases i <;> simp [argField]

/-- The decoder looks the operation code up, then checks the reserved bits, then leaves the operand to the row. -/
theorem decodeCommand_cases (w : Word) :
    (opField w ∉ opCodes ∧ decodeCommand w = .error .unknownOp) ∨
    (opField w ∈ opCodes ∧ rsvField w ≠ 0#8 ∧ decodeCommand w = .error .reservedBits) ∨
    (rsvField w = 0#8 ∧ ∃ row ∈ opTable, row.1 = opField w ∧ decodeCommand w = row.2 (argField w)) := by
  rcases hl : opTable.lookup (opField w) with _ | form
  · refine .inl ⟨fun hmem => ?_, by simp [decodeCommand, hl]⟩
    obtain ⟨row, hrow, heq⟩ := List.mem_map.1 hmem
    simpa [heq] using List.lookup_eq_none_iff.1 hl row hrow
  · have hrow : (opField w, form) ∈ opTable := by
      obtain ⟨l, r, heq, -⟩ := List.lookup_eq_some_iff.1 hl
      simp [heq]
    by_cases hr : rsvField w = 0#8
    · exact .inr (.inr ⟨hr, _, hrow, rfl, by simp [decodeCommand, hl, hr]⟩)
    · exact .inr (.inl ⟨List.mem_map_of_mem hrow, hr, by simp [decodeCommand, hl, hr]⟩)

/-- Checking an operand form rejects exactly where the form has no instruction. -/
theorem orReject_eq_error_iff {q : Reject} {o : Option Instr} : (∃ r, orReject q o = .error r) ↔ o = none := by
  cases o <;> simp [orReject]

/-- Checking an operand form accepts exactly the form's instruction. -/
theorem orReject_eq_ok_iff {q : Reject} {o : Option Instr} {i : Instr} : orReject q o = .ok i ↔ o = some i := by
  cases o <;> simp [orReject]

/-- Form `none` accepts the operand 0 alone. -/
theorem formNone_eq_some_iff {arg : Half} {i j : Instr} : formNone arg i = some j ↔ arg = 0#16 ∧ i = j := by
  simp [formNone]

/-- Form `byte` accepts the extended bytes. -/
theorem formByte_eq_some_iff {arg : Half} {k : Byte → Instr} {j : Instr} :
    formByte arg k = some j ↔ ∃ b : Byte, b.setWidth 16 = arg ∧ k b = j := by
  simp only [formByte, Option.ite_none_right_eq_some, Option.some.injEq]
  constructor
  · rintro ⟨hz, hk⟩
    refine ⟨_, BitVec.eq_of_toNat_eq ?_, hk⟩
    have hhi : arg.toNat / 256 % 256 = 0 := by simpa [Nat.shiftRight_eq_div_pow] using congrArg BitVec.toNat hz
    simp
    omega
  · rintro ⟨b, rfl, hk⟩
    have hlo : (b.setWidth 16).extractLsb' 0 8 = b := BitVec.eq_of_toNat_eq (by simp; omega)
    refine ⟨BitVec.eq_of_toNat_eq ?_, by rwa [hlo]⟩
    simp [Nat.shiftRight_eq_div_pow]
    omega

/-- The selector of `SMP.RD` with a number. -/
theorem sampleSelOf_eq_some_iff {arg : Half} {f : SampleSel} : sampleSelOf arg = some f ↔ sampleSelNum f = arg := by
  constructor
  · intro h
    unfold sampleSelOf at h
    split_ifs at h <;> cases h <;> simp [sampleSelNum, *]
  · rintro rfl
    cases f <;> rfl

/-- The selector of `MET.RD` with a number. -/
theorem metricSelOf_eq_some_iff {arg : Half} {f : MetricSel} : metricSelOf arg = some f ↔ metricSelNum f = arg := by
  constructor
  · intro h
    unfold metricSelOf at h
    split_ifs at h <;> cases h <;> simp [metricSelNum, *]
  · rintro rfl
    cases f <;> rfl

/-- The numbers above 4 select nothing (41_codec.md R136). -/
theorem sampleSelOf_eq_none_iff {arg : Half} : sampleSelOf arg = none ↔ 4 < arg.toNat := by
  unfold sampleSelOf
  split_ifs <;> simp only [true_iff, false_iff] <;> bv_omega

/-- The numbers above 4 select nothing (42_history.md R167). -/
theorem metricSelOf_eq_none_iff {arg : Half} : metricSelOf arg = none ↔ 4 < arg.toNat := by
  unfold metricSelOf
  split_ifs <;> simp only [true_iff, false_iff] <;> bv_omega

/-- The operand checks of R88 (c) to (e), on the fields of a command word. -/
def IllegalOperand (op : Byte) (arg : Half) : Prop :=
  (op ∈ [0x01#8, 0x02#8, 0x10#8, 0x12#8, 0x22#8, 0x30#8, 0x32#8, 0x40#8] ∧ arg ≠ 0#16) ∨
  (op ∈ [0x11#8, 0x31#8] ∧ arg.extractLsb' 8 8 ≠ 0#8) ∨
  (op ∈ [0x33#8, 0x44#8] ∧ 4 < arg.toNat)

/-- R88 on the fields the decoder reads. -/
theorem illegalWord_iff (w : Word) : Claims.IllegalWord w ↔
    opField w ∉ opCodes ∨ rsvField w ≠ 0#8 ∨ IllegalOperand (opField w) (argField w) := by
  rw [IllegalOperand, argField_hi]
  rfl

/-- A row of the table rejects the operands that R88 (c) to (e) make illegal for its code, and no other. -/
theorem row_rejects_iff {row : Byte × (Half → Except Reject Instr)} (h : row ∈ opTable) (arg : Half) :
    (∃ r, row.2 arg = .error r) ↔ IllegalOperand row.1 arg := by
  simp only [opTable, List.cons_append, List.nil_append, List.mem_cons, List.not_mem_nil, or_false] at h
  rcases h with rfl | rfl | rfl | rfl | rfl | rfl | rfl | rfl | rfl | rfl | rfl | rfl | rfl | rfl | rfl | rfl <;>
    simp [IllegalOperand, orReject_eq_error_iff, formNone, formByte, sampleSelOf_eq_none_iff, metricSelOf_eq_none_iff]

/-- What a row accepts is encoded by the row's code and the operand. -/
theorem encode_of_row {row : Byte × (Half → Except Reject Instr)} (h : row ∈ opTable) {arg : Half} {i : Instr}
    (hi : row.2 arg = .ok i) : encode i = .cmd32 (commandWord row.1 arg) := by
  simp only [opTable, List.cons_append, List.nil_append, List.mem_cons, List.not_mem_nil, or_false] at h
  rcases h with rfl | rfl | rfl | rfl | rfl | rfl | rfl | rfl | rfl | rfl | rfl | rfl | rfl | rfl | rfl | rfl <;>
    simp only [orReject_eq_ok_iff, formNone_eq_some_iff, formByte_eq_some_iff, formHalf, Option.map_eq_some_iff,
      sampleSelOf_eq_some_iff, metricSelOf_eq_some_iff, Except.ok.injEq] at hi <;>
    aesop

/-- The command word decoder rejects the illegal words of R88 and no other. -/
theorem decodeCommand_rejects_iff (w : Word) : (∃ r, decodeCommand w = .error r) ↔ Claims.IllegalWord w := by
  rw [illegalWord_iff]
  rcases decodeCommand_cases w with ⟨hop, hd⟩ | ⟨-, hr, hd⟩ | ⟨hr, row, hrow, hop, hd⟩
  · simp [hd, hop]
  · simp [hd, hr]
  · have hmem : opField w ∈ opCodes := hop ▸ List.mem_map_of_mem hrow
    simp [hd, hr, hmem, row_rejects_iff hrow, hop]

/-- A command word that decodes is the encoding of its instruction. -/
theorem encode_of_decodeCommand {w : Word} {i : Instr} (h : decodeCommand w = .ok i) : encode i = .cmd32 w := by
  rcases decodeCommand_cases w with ⟨-, hd⟩ | ⟨-, -, hd⟩ | ⟨hr, row, hrow, hop, hd⟩
  · simp [hd] at h
  · simp [hd] at h
  · rw [encode_of_row hrow (hd ▸ h), hop, commandWord_fields hr]

end Sys2Proof.Machine

/-! SUPPORT. What one step can do to `EILL` (10_state.md R42). -/

namespace Sys2Proof.Machine

/-- The next step runs an encoding that decodes. -/
theorem step_of_decode {s : State} {e : Encoding} {rest : List Input} {i : Instr} (hp : s.port = .present e :: rest)
    (hd : decode e = .ok i) : step s = exec i { s with port := rest } := by
  simp [step, takeNext, takeInput, takeEncoding, hp, hd]

/-- The next step answers an illegal command word ILLEGAL (30_encoding.md R88). -/
theorem step_of_illegalWord {s : State} {w : Word} {rest : List Input} (hw : Claims.IllegalWord w)
    (hp : s.port = Claims.command w :: rest) : step s = .next (raiseIllegal { s with port := rest }) := by
  obtain ⟨r, hr⟩ := (decodeCommand_rejects_iff w).2 hw
  simp [step, takeNext, takeInput, takeEncoding, rejectInput, decode, hp, hr, Claims.command]

/-- Only its command word decodes to `SYS.RST`. -/
theorem decode_eq_sysRst {e : Encoding} (h : decode e = .ok .sysRst) : e = .cmd32 0x01000000#32 := by
  cases e with
  | cmd32 w => exact (encode_of_decodeCommand h).symm
  | wire4 w =>
    simp only [decode, decodeWire4] at h
    split_ifs at h <;> cases h
  | wire8 w => cases h

/-- A step keeps `EILL`, or clears it by one of the two resets, or sets it by an illegal command word. -/
theorem step_eill_cases {s t : State} (h : step s = .next t) :
    t.eill = s.eill ∨
    (t.eill = false ∧ ∃ x rest, s.port = x :: rest ∧ (x = .hardReset ∨ x = Claims.command 0x01000000#32)) ∨
    (t.eill = true ∧ ∃ w rest, s.port = Claims.command w :: rest ∧ Claims.IllegalWord w) := by
  rcases step_cases s with ⟨-, hs⟩ | ⟨rest, hp, hs⟩ | ⟨e, rest, i, hp, hd, hs⟩ | ⟨e, rest, r, hp, hd, hs⟩ <;>
    rw [hs] at h
  · cases h
    exact .inl rfl
  · cases h
    exact .inr (.inl ⟨rfl, _, rest, hp, .inl rfl⟩)
  · by_cases hi : i = .sysRst
    · subst hi
      cases h
      exact .inr (.inl ⟨rfl, _, rest, hp, .inr (congrArg _ (decode_eq_sysRst hd))⟩)
    · exact .inl ((effect_of_exec h).eill_eq hi)
  · cases e with
    | cmd32 w =>
      cases h
      exact .inr (.inr ⟨rfl, w, rest, hp, (decodeCommand_rejects_iff w).1 ⟨r, hd⟩⟩)
    | wire4 w => cases h
    | wire8 w => cases h

end Sys2Proof.Machine

/-! SUPPORT. The Sample History under pushes (10_state.md R33 to R36): the part of the invariant that is about `H`,
`HCNT` and `SUM`, that every push keeps it, and that pushes leave the last fifty values. -/

namespace Sys2Proof.Machine

/-- The clauses of 10_state.md R46 (b) and (c): what `H`, `HCNT` and `SUM` say agrees. -/
structure State.HistoryInv (s : State) : Prop where
  hcnt_le : s.hcnt.toNat ≤ 50
  h_length : s.h.length = s.hcnt.toNat
  sum_eq : s.sum.toNat = histSum s.h

/-- The invariant of R46 includes that of the history. -/
theorem State.Inv.historyInv {s : State} (h : s.Inv) : s.HistoryInv := ⟨h.hcnt_le, h.h_length, h.sum_eq⟩

/-- The invariant of the history sees the history alone. -/
theorem State.HistoryInv.of_same {s t : State} (h : s.HistoryInv) (hst : SameHistory s t) : t.HistoryInv := by
  obtain ⟨hh, hcnt, hsum⟩ := hst
  exact ⟨by rw [hcnt]; exact h.hcnt_le, by rw [hh, hcnt]; exact h.h_length, by rw [hh, hsum]; exact h.sum_eq⟩

@[simp] theorem histSum_nil : histSum [] = 0 := rfl

@[simp] theorem histSum_cons (x : Half) (l : List Half) : histSum (x :: l) = x.toNat + histSum l := by simp [histSum]

@[simp] theorem histSum_append (l m : List Half) : histSum (l ++ m) = histSum l + histSum m := by simp [histSum]

/-- Each entry is below `2 ^ 16`, so fifty of them stay below `2 ^ 22` (R36). -/
theorem histSum_le (l : List Half) : histSum l ≤ l.length * 65535 := by
  induction l with
  | nil => simp
  | cons x l ih =>
    have hx := x.isLt
    simp only [histSum_cons, List.length_cons]
    omega

/-- The last `n` of a list followed by others are found in its last `n` alone. -/
theorem rtake_append_rtake {α : Type} (n : Nat) (l m : List α) : (l.rtake n ++ m).rtake n = (l ++ m).rtake n := by
  simp [List.rtake_eq_reverse_take_reverse, List.take_append, List.take_take]

/-- A push leaves the last fifty of the history and the value (R34). -/
theorem histPush_h_eq_rtake {s : State} (h : s.HistoryInv) (v : Half) :
    (histPush v s).h = (s.h ++ [v]).rtake 50 := by
  have hle := h.hcnt_le
  have hlen := h.h_length
  rcases histPush_cases v s with ⟨hn, hh, -⟩ | ⟨hn, hh, -⟩ <;> rw [hh]
  · simp [List.rtake, (by omega : s.h.length + 1 - 50 = 0)]
  · rw [List.rtake_concat_succ, List.rtake, (by omega : s.h.length - 49 = 1), List.drop_one]

/-- A push keeps the invariant of the history (R36, R46 (b), (c)). -/
theorem histPush_historyInv {s : State} (h : s.HistoryInv) (v : Half) : (histPush v s).HistoryInv := by
  have hle := h.hcnt_le
  have hlen := h.h_length
  have hsum := h.sum_eq
  have hbound := histSum_le s.h
  have hv := v.isLt
  rcases histPush_cases v s with ⟨hn, hh, hcnt, hs⟩ | ⟨hn, hh, hcnt, hs⟩
  · have hcnt' : (s.hcnt + 1#6).toNat = s.hcnt.toNat + 1 := by bv_omega
    refine ⟨?_, ?_, ?_⟩
    · rw [hcnt, hcnt']; omega
    · rw [hh, hcnt, hcnt', List.length_append, hlen]; rfl
    · rw [hh, hs, histSum_append]
      simp
      omega
  · obtain ⟨x, l, hl⟩ : ∃ x l, s.h = x :: l := List.exists_cons_of_length_pos (by omega)
    rw [hl] at hh hs hlen hsum hbound
    refine ⟨?_, ?_, ?_⟩
    · rw [hcnt]; rfl
    · rw [hh, hcnt]; simp at hlen ⊢; omega
    · rw [hh, hs]
      simp at hsum hlen hbound ⊢
      omega

/-- The command word of `HS.PUSH v`. -/
theorem decode_hsPush (v : Half) : decode (.cmd32 (0x41000000#32 ||| v.setWidth 32)) = .ok (.hsPush v) := by
  have hw : (0x41000000#32 ||| v.setWidth 32) = commandWord 0x41#8 v := rfl
  have hrow : opTable.lookup 0x41#8 = some (fun arg => .ok (formHalf arg .hsPush)) := rfl
  simp [decode, decodeCommand, hw, hrow, formHalf]

/-- A step that pushes takes the word, keeps the invariant of the history and leaves the last fifty (42_history.md
R161). -/
theorem step_of_hsPush {s : State} {v : Half} {rest : List Input} (h : s.HistoryInv)
    (hp : s.port = Claims.command (0x41000000#32 ||| v.setWidth 32) :: rest) :
    ∃ u, step s = .next u ∧ u.port = rest ∧ u.HistoryInv ∧ u.h = (s.h ++ [v]).rtake 50 := by
  have hinv : ({ s with port := rest } : State).HistoryInv := h.of_same ⟨rfl, rfl, rfl⟩
  refine ⟨_, step_of_decode hp (decode_hsPush v), ?_, ?_, ?_⟩
  · simp
  · exact (histPush_historyInv hinv v).of_same ⟨rfl, rfl, rfl⟩
  · exact histPush_h_eq_rtake hinv v

/-- Values pushed one after another leave the last fifty, and the invariant of the history. -/
theorem run_of_hsPushes (vs : List Half) (s : State) (rest : List Input) (h : s.HistoryInv)
    (hp : s.port = vs.map (fun v => Claims.command (0x41000000#32 ||| v.setWidth 32)) ++ rest) :
    ∃ t, Claims.RunsTo vs.length s t ∧ t.port = rest ∧ t.HistoryInv ∧ t.h = (s.h ++ vs).rtake 50 := by
  induction vs generalizing s with
  | nil =>
    have hfit : s.h.length - 50 = 0 := by
      rw [h.h_length, Nat.sub_eq_zero_iff_le]
      exact h.hcnt_le
    exact ⟨s, rfl, hp, h, by simp [List.rtake, hfit]⟩
  | cons v vs ih =>
    obtain ⟨u, hstep, hport, hinv, hu⟩ := step_of_hsPush h hp
    obtain ⟨t, hrun, hrest, ht, hh⟩ := ih u hinv hport
    refine ⟨t, (runSteps_succ _ hstep).trans hrun, hrest, ht, ?_⟩
    rw [hh, hu, rtake_append_rtake, List.append_assoc, List.singleton_append]

end Sys2Proof.Machine

/-! The obligations of the state's rules: O43 (10_state.md R34), O38 (R29), O58 (R42). -/

namespace Sys2Proof.Proofs

open Sys2Proof.Machine Sys2Proof.Claims

/-- Settles O43: by induction over the pushed values, and by the effects of the instructions. -/
theorem historyKeepsTheLastFifty : Obligations.HistoryKeepsTheLastFifty := by
  refine ⟨fun vs s rest hinv hp => ?_, fun i s t hinv h => ?_⟩
  · obtain ⟨t, hrun, hport, ht, hh⟩ := run_of_hsPushes vs s rest hinv.historyInv hp
    refine ⟨t, hrun, hport, hh, ?_, ht.sum_eq⟩
    rw [← ht.h_length, hh, List.rtake, List.length_drop]
    omega
  · rcases (effect_of_exec h).h_cases with hkeep | hrst | ⟨v, hi, hh⟩
    · exact .inl hkeep
    · exact .inr (.inl hrst)
    · refine .inr (.inr ⟨v, hi, ?_⟩)
      rcases histPush_cases v s with ⟨hn, hpush, -⟩ | ⟨hn, hpush, -⟩
      · rw [hh, hpush, if_pos hn]
      · rw [hh, hpush, if_neg (by omega), List.drop_one]

/-- Settles O38: only a decode can change a sample register, and it does so only when it validates the buffer. -/
theorem sampleRegistersHoldOnlyValidatedFrames : Obligations.SampleRegistersHoldOnlyValidatedFrames := by
  refine ⟨fun i s t hop h hr hchange => ?_, fun s t h hv => ?_⟩
  · by_cases hd : i = .dec
    · subst hd
      cases h
      rcases decodeBuffer_sample_cases s with ⟨hv, hcrc, hload⟩ | ⟨-, hkeep⟩
      · exact ⟨rfl, hv, hcrc, hload⟩
      · exact absurd hkeep hchange
    · exact absurd ((effect_of_exec h).sample_eq hop hr hd) hchange
  · cases h
    rcases decodeBuffer_sample_cases s with ⟨hvalid, -⟩ | ⟨-, hduty, href, havg, hmstate⟩
    · exact absurd hvalid hv
    · exact ⟨hduty, href, havg, hmstate, fun f => exec_smpRd_of_not_valid f hv⟩

/-- Settles O58: by what one step can do to `EILL`. -/
theorem eillIsSetByIllegalOnly : Obligations.EillIsSetByIllegalOnly := by
  refine ⟨fun s t h hs ht => ?_, fun s t h hs ht => ?_, fun s w rest hw hp => ?_⟩
  · rcases step_eill_cases h with hkeep | ⟨hclear, -⟩ | ⟨-, hset⟩
    · simp [hkeep, hs] at ht
    · simp [hclear] at ht
    · exact hset
  · rcases step_eill_cases h with hkeep | ⟨-, hclear⟩ | ⟨hset, -⟩
    · simp [hkeep, hs] at ht
    · exact hclear
    · simp [hset] at ht
  · exact ⟨_, step_of_illegalWord hw hp, raiseIllegal_eill _⟩

end Sys2Proof.Proofs

/-! SUPPORT. The metric fits its registers (42_history.md R153, R156, R157): over at most fifty entries, `devn` is below
`2 ^ 22` and both percentages are below `2 ^ 32`. -/

namespace Sys2Proof.Machine

/-- An entry is part of the sum. -/
theorem toNat_le_histSum {x : Half} {h : List Half} (hx : x ∈ h) : x.toNat ≤ histSum h :=
  List.single_le_sum (by simp) _ (List.mem_map_of_mem hx)

/-- An entry's deviation is the distance of two numbers, so a bound of both bounds it. -/
theorem entryDev_le {n total b : Nat} {x : Half} (hx : n * x.toNat ≤ b) (ht : total ≤ b) : entryDev n total x ≤ b := by
  unfold entryDev
  rw [← Nat.cast_mul]
  omega

/-- A bound of every entry's deviation bounds the greatest. -/
theorem devn_le_of_forall {h : List Half} {b : Nat} (hb : ∀ x ∈ h, entryDev h.length (histSum h) x ≤ b) :
    devn h ≤ b :=
  List.max_le_of_forall_le _ b (by simpa using hb)

/-- The greatest deviation against the width of an entry. -/
theorem devn_le_length_mul (h : List Half) : devn h ≤ h.length * 65535 :=
  devn_le_of_forall fun x _ => entryDev_le (Nat.mul_le_mul_left _ (Nat.le_of_lt_succ x.isLt)) (histSum_le h)

/-- The greatest deviation against the sum. -/
theorem devn_le_length_mul_histSum (h : List Half) : devn h ≤ h.length * histSum h :=
  devn_le_of_forall fun _ hx => entryDev_le (Nat.mul_le_mul_left _ (toNat_le_histSum hx))
    (Nat.le_mul_of_pos_left _ (List.length_pos_of_mem hx))

/-- Rounding keeps an integer bound of the quotient. -/
theorem rnd_le {p q k : Nat} (h : p ≤ k * q) : rnd p q ≤ k := by
  unfold rnd
  rcases Nat.eq_zero_or_pos q with rfl | hq
  · simp
  · refine Nat.le_of_lt_succ (Nat.div_lt_of_lt_mul ?_)
    calc 2 * p + q < 2 * (k * q) + 2 * q := by omega
      _ = 2 * q * (k + 1) := by ring

/-- The percentage of the mean, against the length. -/
theorem pctm_le (h : List Half) : pctm h ≤ 10000 * h.length := by
  unfold pctm
  split
  · refine rnd_le ?_
    calc 100 * Config.pctScale * devn h ≤ 10000 * (h.length * histSum h) :=
          Nat.mul_le_mul_left 10000 (devn_le_length_mul_histSum h)
      _ = 10000 * h.length * histSum h := (Nat.mul_assoc ..).symm
  · exact Nat.zero_le _

/-- The percentage of the reference, against the width of an entry. -/
theorem pctr_le (h : List Half) (r : Half) : pctr h r ≤ 655350000 := by
  unfold pctr
  split
  next hr =>
    refine rnd_le ?_
    calc 100 * Config.pctScale * devn h ≤ 10000 * (h.length * 65535) :=
          Nat.mul_le_mul_left 10000 (devn_le_length_mul h)
      _ = 655350000 * h.length := by ring
      _ ≤ 655350000 * (h.length * r.toNat) := Nat.mul_le_mul_left _ (Nat.le_mul_of_pos_right _ hr)
  · exact Nat.zero_le _

/-- From a history within its capacity, an update of ten entries or more leaves the exact metric in the registers
(42_history.md R159). -/
theorem metricUpdate_metric {s : State} (hinv : s.HistoryInv) (r : Half) (hn : 10 ≤ s.hcnt.toNat) :
    (metricUpdate r s).mvalid = true ∧ (metricUpdate r s).devn.toNat = devn s.h ∧
      (metricUpdate r s).pctm.toNat = pctm s.h ∧ (metricUpdate r s).pctr.toNat = pctr s.h r := by
  have hlen : s.h.length ≤ 50 := hinv.h_length ▸ hinv.hcnt_le
  have hdevn := devn_le_length_mul s.h
  have hpctm := pctm_le s.h
  have hpctr := pctr_le s.h r
  rw [metricUpdate_of_enough r hn]
  refine ⟨rfl, ?_, ?_, ?_⟩ <;> exact Nat.mod_eq_of_lt (by omega)

/-- A repeated update finds the registers as the first left them: it reads the history alone. -/
theorem metricUpdate_again {s t : State} (r : Half) (hh : SameHistory s t) (hm : SameMetric (metricUpdate r s) t) :
    SameMetric t (metricUpdate r t) := by
  obtain ⟨heq, hcnt, -⟩ := hh
  obtain ⟨hmvalid, hdevn, hpctm, hpctr⟩ := hm
  rcases Nat.lt_or_ge s.hcnt.toNat 10 with hn | hn
  · rw [metricUpdate_of_few r hn] at hmvalid
    rw [metricUpdate_of_few r (hcnt ▸ hn)]
    exact ⟨hmvalid.symm, rfl, rfl, rfl⟩
  · rw [metricUpdate_of_enough r hn] at hmvalid hdevn hpctm hpctr
    rw [metricUpdate_of_enough r (hcnt ▸ hn), SameMetric, heq]
    exact ⟨hmvalid.symm, hdevn.symm, hpctm.symm, hpctr.symm⟩

end Sys2Proof.Machine

/-! SUPPORT. The operations of 20_memory.md R59 in the state they leave behind: a decode of an empty buffer, an
accumulation without a new sample, and the reading operations whatever was answered before. -/

namespace Sys2Proof.Machine

/-- A decode of any other number of bytes than eight is incomplete (41_codec.md R132). -/
theorem decodeBuffer_of_rxn_ne {s : State} (hn : s.rxn ≠ 8#4) :
    decodeBuffer s = respond .incomplete (s.rxn.setWidth 32) (setOutcome .incomplete (emptyBuffer s)) := by
  unfold decodeBuffer
  exact if_pos hn

/-- The decode result of each of the three cases of a decode (R132). -/
theorem decodeBuffer_result (s : State) :
    (s.rxn ≠ 8#4 → (decodeBuffer s).outcome = .incomplete ∧ (decodeBuffer s).snew = false) ∧
    (s.rxn = 8#4 → crc8 (rxPayload s.rxb) ≠ s.rxb[7] →
      (decodeBuffer s).outcome = .ckMismatch ∧ (decodeBuffer s).snew = false) ∧
    (s.rxn = 8#4 → crc8 (rxPayload s.rxb) = s.rxb[7] →
      (decodeBuffer s).outcome = .valid ∧ (decodeBuffer s).snew = true ∧
        (decodeBuffer s).duty = le16 s.rxb[0] s.rxb[1] ∧ (decodeBuffer s).ref = le16 s.rxb[2] s.rxb[3] ∧
        (decodeBuffer s).avg = le16 s.rxb[4] s.rxb[5] ∧ (decodeBuffer s).mstate = s.rxb[6]) := by
  rcases decodeBuffer_cases s with ⟨hn, hd⟩ | ⟨hn, hc, hd⟩ | ⟨hn, hc, hd⟩
  · simp [hn, hd]
  · simp [hn, hc, hd]
  · simp [hn, hc, hd]

/-- A decode of an empty buffer writes the decode result alone. -/
theorem decodeBuffer_of_empty {s : State} (hn : s.rxn = 0#4) :
    decodeBuffer s =
      { s with outcome := .incomplete, snew := false, out := s.out ++ [⟨.incomplete, 0#32⟩] } := by
  have hempty : emptyBuffer s = s := by simp [emptyBuffer, ← hn]
  have hdata : s.rxn.setWidth 32 = 0#32 := by simp [hn]
  rw [decodeBuffer_of_rxn_ne (by simp [hn]), hempty, hdata]
  rfl

/-- Without a new sample `SMP.ACC` answers NOSAMPLE and changes no register (42_history.md R160). -/
theorem exec_smpAcc_of_not_new {s : State} (hn : s.snew = false) :
    exec .smpAcc s = .next (raiseStatus .noSample 0#32 s) := by
  simp [exec, execSmpAcc, hn]

/-- A validated, new sample is appended and then no longer new (R160). -/
theorem exec_smpAcc_of_new {s : State} (hv : s.outcome = .valid) (hn : s.snew = true) :
    exec .smpAcc s = .next (answerMetric (metricUpdate s.ref (clearSnew (histPush s.avg s)))) := by
  simp [exec, execSmpAcc, hv, hn]

/-- A validated sample's field is answered (41_codec.md R136). -/
theorem exec_smpRd_of_valid {s : State} (f : SampleSel) (hv : s.outcome = .valid) :
    exec (.smpRd f) s = .next (respond .ok (sampleField s f) s) := by
  simp [exec, execSmpRd, hv]

/-- The register a selector of `MET.RD` names, as a data word (42_history.md R167). -/
def metricField (s : State) : MetricSel → Word
  | .pctm => s.pctm
  | .pctr => s.pctr
  | .devn => s.devn.setWidth 32
  | .sum => s.sum.setWidth 32
  | .hcnt => s.hcnt.setWidth 32

/-- `MET.RD` answers a held metric, and `SUM` and `HCNT` always (R167). -/
theorem exec_metRd_of_held {s : State} {f : MetricSel} (hf : s.mvalid = true ∨ f = .sum ∨ f = .hcnt) :
    exec (.metRd f) s = .next (respond .ok (metricField s f) s) := by
  cases f <;> simp_all [exec, execMetRd, metricField]

/-- Without a held metric the other selectors answer NOMETRIC (R167). -/
theorem exec_metRd_of_not_held {s : State} {f : MetricSel} (hf : ¬ (s.mvalid = true ∨ f = .sum ∨ f = .hcnt)) :
    exec (.metRd f) s = .next (raiseStatus .noMetric 0#32 s) := by
  cases f <;> simp_all [exec, execMetRd]

/-- An operation that responds the same whatever was answered before only answers (20_memory.md R59). -/
theorem onlyAnswers_of_respond {i : Instr} {s : State} (st : Status) (d : Word)
    (h : ∀ o, exec i { s with out := o } = .next (respond st d { s with out := o })) : Claims.OnlyAnswers i s :=
  ⟨⟨st, d⟩, h⟩

/-- Every reading operation responds the same whatever was answered before (R59). -/
theorem onlyAnswers_of_reads {i : Instr} (hi : reads i = true) (s : State) : Claims.OnlyAnswers i s := by
  cases i with
  | sysStat => exact onlyAnswers_of_respond .ok (statusWord s) fun _ => rfl
  | ckRd => exact onlyAnswers_of_respond .ok (s.crc.setWidth 32) fun _ => rfl
  | encSpd rpm => exact onlyAnswers_of_respond .ok (word4 (cmdframe Config.kindSetSpeed rpm)) fun _ => rfl
  | encTrq => exact onlyAnswers_of_respond .ok (word4 (cmdframe Config.kindTelemReq 0#16)) fun _ => rfl
  | smpRd f =>
    have hsame : ∀ o, sampleField { s with out := o } f = sampleField s f := fun _ => by cases f <;> rfl
    by_cases hv : s.outcome = .valid
    · exact onlyAnswers_of_respond .ok (sampleField s f) fun o => by
        rw [← hsame o]
        exact exec_smpRd_of_valid f hv
    · exact onlyAnswers_of_respond .noSample 0#32 fun _ => exec_smpRd_of_not_valid f hv
  | hsRd idx =>
    have hsame : ∀ o, histEntry { s with out := o } idx.toNat = histEntry s idx.toNat := fun _ => rfl
    rcases he : histEntry s idx.toNat with _ | v
    · exact onlyAnswers_of_respond .range 0#32 fun o => by simp [exec, execHsRd, hsame, he, raiseStatus]
    · exact onlyAnswers_of_respond .ok (v.setWidth 32) fun o => by simp [exec, execHsRd, hsame, he]
  | metRd f =>
    have hsame : ∀ o, metricField { s with out := o } f = metricField s f := fun _ => by cases f <;> rfl
    by_cases hf : s.mvalid = true ∨ f = .sum ∨ f = .hcnt
    · exact onlyAnswers_of_respond .ok (metricField s f) fun o => by
        rw [← hsame o]
        exact exec_metRd_of_held hf
    · exact onlyAnswers_of_respond .noMetric 0#32 fun _ => exec_metRd_of_not_held hf
  | _ => cases hi

end Sys2Proof.Machine

/-! The obligation of the memory and response rules: O57 (20_memory.md R59). -/

namespace Sys2Proof.Proofs

open Sys2Proof.Machine Sys2Proof.Claims

/-- Settles O57: clause by clause, each operation by its cases on the state it meets. -/
theorem readsChangeNothing : Obligations.ReadsChangeNothing := by
  refine ⟨fun s => ?_, fun rpm => ⟨_, fun _ => rfl⟩, ⟨_, fun _ => rfl⟩, fun s t h => ?_, fun s t h hv hn => ?_,
    fun s t r hinv h => ?_, fun s t u r ht hu => ?_⟩
  -- the reading operations
  · exact ⟨onlyAnswers_of_reads rfl s, fun _ => onlyAnswers_of_reads rfl s, fun _ => onlyAnswers_of_reads rfl s,
      fun _ => onlyAnswers_of_reads rfl s, onlyAnswers_of_reads rfl s⟩
  -- `DEC`
  · cases h
    obtain ⟨hshort, hmismatch, hvalid⟩ := decodeBuffer_result s
    exact ⟨decodeBuffer_rxn s, hshort, hmismatch, hvalid,
      congrArg _ (decodeBuffer_of_empty (decodeBuffer_rxn s))⟩
  -- `SMP.ACC`
  · rw [exec_smpAcc_of_new hv hn, Host.Outcome.next.injEq] at h
    subst h
    refine ⟨?_, by simp, exec_smpAcc_of_not_new (by simp)⟩
    rcases histPush_cases s.avg s with ⟨hlt, hh, -⟩ | ⟨hge, hh, -⟩
    · simp [hh, hlt]
    · simp [hh, Nat.not_lt.2 hge]
  -- `HS.MET`, and `HS.MET` again
  · cases h
    refine ⟨fun hn => by simpa using metricUpdate_metric hinv.historyInv r hn, fun hn => ?_⟩
    simp [metricUpdate_of_few r hn]
  · cases ht
    cases hu
    have hmetric := metricUpdate_again (s := s) (t := answerMetric (metricUpdate r s)) r (by simp [SameHistory])
      (by simp [SameMetric])
    simpa [SameRegisters, SameBuffer, SameSample, SameHistory, SameMetric] using hmetric

end Sys2Proof.Proofs

/-! SUPPORT. The command words that decode (30_encoding.md R78, R84), from their fields: the word of a row's operation
code decodes to what the row's operand form makes of the operand. -/

namespace Sys2Proof.Machine

/-- The operation codes of the table are distinct. -/
theorem opCodes_nodup : opCodes.Nodup := by decide

/-- A word of a row's operation code without reserved bits decodes to what the row makes of the operand. -/
theorem decodeCommand_of_row {row : Byte × (Half → Except Reject Instr)} (h : row ∈ opTable) {w : Word}
    (hop : opField w = row.1) (hr : rsvField w = 0#8) : decodeCommand w = row.2 (argField w) := by
  rcases decodeCommand_cases w with ⟨hunknown, -⟩ | ⟨-, hreserved, -⟩ | ⟨-, row', hrow', hop', hd⟩
  · exact absurd (hop ▸ List.mem_map_of_mem h) hunknown
  · exact absurd hr hreserved
  · rw [hd, List.inj_on_of_nodup_map opCodes_nodup hrow' h (hop'.trans hop)]

/-- The word of a row's operation code and an operand decodes to what the row makes of the operand. -/
theorem decode_commandWord {row : Byte × (Half → Except Reject Instr)} (h : row ∈ opTable) (arg : Half) :
    decode (.cmd32 (commandWord row.1 arg)) = row.2 arg := by
  simpa [decode] using decodeCommand_of_row h (opField_commandWord row.1 arg) (rsvField_commandWord row.1 arg)

/-- The command word of an operation with a byte operand, as one literal and the byte. -/
theorem commandWord_byte (op b : Byte) :
    commandWord op (b.setWidth 16) = (op.setWidth 32 <<< 24) ||| b.setWidth 32 := by
  rw [commandWord, BitVec.setWidth_setWidth (by omega)]

/-- The command word of an operation with a byte operand decodes to the operation with that byte. -/
theorem decode_byteWord {op : Byte} {q : Reject} {k : Byte → Instr}
    (h : (op, fun arg => orReject q (formByte arg k)) ∈ opTable) (b : Byte) :
    decode (.cmd32 ((op.setWidth 32 <<< 24) ||| b.setWidth 32)) = .ok (k b) := by
  rw [← commandWord_byte, decode_commandWord h, orReject_eq_ok_iff]
  exact formByte_eq_some_iff.2 ⟨b, rfl, rfl⟩

/-- The command word of `CK.ABS b`. -/
theorem decode_ckAbs (b : Byte) : decode (.cmd32 (0x11000000#32 ||| b.setWidth 32)) = .ok (.ckAbs b) :=
  decode_byteWord (op := 0x11#8) (q := .byteTooWide) (by simp [opTable]) b

/-- The command word of `RX.PUSH b`. -/
theorem decode_rxPush (b : Byte) : decode (.cmd32 (0x31000000#32 ||| b.setWidth 32)) = .ok (.rxPush b) :=
  decode_byteWord (op := 0x31#8) (q := .byteTooWide) (by simp [opTable]) b

end Sys2Proof.Machine

/-! SUPPORT. A field of a frame and its two bytes (41_codec.md R121, 20_memory.md R52). -/

namespace Sys2Proof.Machine

/-- `le16` as arithmetic: the bytes do not overlap. -/
theorem le16_toNat (lo hi : Byte) : (le16 lo hi).toNat = lo.toNat + 256 * hi.toNat := by
  have hlo : (lo.setWidth 16).toNat = lo.toNat := by simp; omega
  have hhi : (hi.setWidth 16 <<< 8).toNat = 2 ^ 8 * hi.toNat := by simp [Nat.shiftLeft_eq]; omega
  rw [le16, BitVec.toNat_or, hlo, hhi, Nat.or_comm, ← Nat.two_pow_add_eq_or_of_lt lo.isLt, Nat.add_comm]

theorem loByte_toNat (v : Half) : (loByte v).toNat = v.toNat % 256 := by
  simp [loByte]

theorem hiByte_toNat (v : Half) : (hiByte v).toNat = v.toNat / 256 := by
  simp [hiByte, Nat.shiftRight_eq_div_pow]
  omega

/-- Joining the split of a field gives it back. -/
@[simp] theorem le16_loByte_hiByte (v : Half) : le16 (loByte v) (hiByte v) = v := by
  apply BitVec.eq_of_toNat_eq
  rw [le16_toNat, loByte_toNat, hiByte_toNat]
  exact Nat.mod_add_div ..

@[simp] theorem loByte_le16 (lo hi : Byte) : loByte (le16 lo hi) = lo := by
  apply BitVec.eq_of_toNat_eq
  rw [loByte_toNat, le16_toNat]
  omega

@[simp] theorem hiByte_le16 (lo hi : Byte) : hiByte (le16 lo hi) = hi := by
  apply BitVec.eq_of_toNat_eq
  rw [hiByte_toNat, le16_toNat]
  omega

/-- Two fields are the same when their bytes are. -/
theorem half_eq_iff {v u : Half} : v = u ↔ loByte v = loByte u ∧ hiByte v = hiByte u := by
  refine ⟨fun h => by simp [h], fun ⟨hlo, hhi⟩ => ?_⟩
  rw [← le16_loByte_hiByte v, hlo, hhi, le16_loByte_hiByte]

/-! The bytes of a masked field are the masked bytes. -/

theorem loByte_and (v m : Half) : loByte (v &&& m) = loByte v &&& loByte m := by
  simp [loByte, BitVec.extractLsb'_and]

theorem hiByte_and (v m : Half) : hiByte (v &&& m) = hiByte v &&& hiByte m := by
  simp [hiByte, BitVec.extractLsb'_and]

end Sys2Proof.Machine

/-! SUPPORT. The rows of the decoder are the rows of the table of 30_encoding.md R84: match and mask field by field. -/

namespace Sys2Proof.Machine

open Sys2Proof.Claims

/-! The fields of a masked word are the masked fields. -/

theorem opField_and (w m : Word) : opField (w &&& m) = opField w &&& opField m := by
  simp [opField, BitVec.extractLsb'_and]

theorem rsvField_and (w m : Word) : rsvField (w &&& m) = rsvField w &&& rsvField m := by
  simp [rsvField, BitVec.extractLsb'_and]

theorem argField_and (w m : Word) : argField (w &&& m) = argField w &&& argField m := by
  simp [argField, BitVec.extractLsb'_and]

/-- Two words are the same when their three fields are (R78). -/
theorem word_eq_iff {w v : Word} :
    w = v ↔ opField w = opField v ∧ rsvField w = rsvField v ∧ argField w = argField v := by
  refine ⟨fun h => by simp [h], fun ⟨hop, hr, harg⟩ => BitVec.eq_of_toNat_eq ?_⟩
  have hw := w.isLt
  have hv := v.isLt
  simp only [opField, rsvField, argField, ← BitVec.toNat_inj, BitVec.extractLsb'_toNat, Nat.shiftRight_eq_div_pow]
    at hop hr harg
  omega

/-- The lower byte of the operand is the lowest byte of the word. -/
theorem argField_lo (w : Word) : (argField w).extractLsb' 0 8 = w.setWidth 8 := by
  apply BitVec.eq_of_getLsbD_eq
  intro i hi
  interval_cases i <;> simp [argField]

/-- The operand is the lower half of the word. -/
theorem argField_eq_setWidth (w : Word) : argField w = w.setWidth 16 := by
  simp [argField, BitVec.setWidth_eq_extractLsb']

/-- A row whose mask covers the operation code and the reserved bits selects a word field by field. -/
theorem accepts_iff_fields (op : Byte) {mask : Word} {sel : Bool} (build : Word → Instr)
    (hop : opField mask = BitVec.allOnes 8) (hr : rsvField mask = BitVec.allOnes 8) (w : Word) :
    (⟨commandWord op 0#16, mask, sel, build⟩ : Row).accepts w ↔ opField w = op ∧ rsvField w = 0#8 ∧
      argField w &&& argField mask = 0#16 ∧ (sel = true → (argField w).toNat ≤ 4) := by
  rw [Row.accepts, word_eq_iff, opField_and, rsvField_and, argField_and, hop, hr, ← argField_eq_setWidth]
  simp only [BitVec.and_allOnes, opField_commandWord, rsvField_commandWord, argField_commandWord, and_assoc]

/-- The five numbers a selector can have (R81). -/
theorem le_four_cases {arg : Half} (h : arg.toNat ≤ 4) :
    arg = 0#16 ∨ arg = 1#16 ∨ arg = 2#16 ∨ arg = 3#16 ∨ arg = 4#16 := by
  bv_omega

/-- A row of the decoder and a row of the table take the same words, to the same instructions. -/
def RowsAgree (row : Byte × (Half → Except Reject Instr)) (r : Row) : Prop :=
  ∀ w i, (opField w = row.1 ∧ rsvField w = 0#8 ∧ row.2 (argField w) = .ok i) ↔ r.accepts w ∧ r.build w = i

section forms
variable {op : Byte} {q : Reject}

/-- Form `none`: the mask covers the operand. -/
theorem rowsAgree_none {i : Instr} : RowsAgree (op, fun arg => orReject q (formNone arg i))
    ⟨commandWord op 0#16, 0xFFFFFFFF#32, false, fun _ => i⟩ := by
  intro w j
  have hmask : argField 0xFFFFFFFF#32 = BitVec.allOnes 16 := by decide
  rw [accepts_iff_fields op _ (by decide) (by decide), hmask, BitVec.and_allOnes, orReject_eq_ok_iff,
    formNone_eq_some_iff]
  simp [and_assoc]

/-- Form `byte`: the mask covers the upper byte of the operand. -/
theorem rowsAgree_byte {k : Byte → Instr} : RowsAgree (op, fun arg => orReject q (formByte arg k))
    ⟨commandWord op 0#16, 0xFFFFFF00#32, false, fun w => k (w.setWidth 8)⟩ := by
  intro w j
  have hmask : argField w &&& argField 0xFFFFFF00#32 = 0#16 ↔ (argField w).extractLsb' 8 8 = 0#8 := by
    have hlo : loByte (argField 0xFFFFFF00#32) = 0#8 := by decide
    have hhi : hiByte (argField 0xFFFFFF00#32) = BitVec.allOnes 8 := by decide
    rw [half_eq_iff, loByte_and, hiByte_and, hlo, hhi, BitVec.and_allOnes]
    simp [loByte, hiByte]
  rw [accepts_iff_fields op _ (by decide) (by decide), hmask, orReject_eq_ok_iff]
  simp [and_assoc, formByte, argField_lo]

/-- Forms `half` and `index`: the mask leaves the operand free. -/
theorem rowsAgree_half {k : Half → Instr} : RowsAgree (op, fun arg => .ok (formHalf arg k))
    ⟨commandWord op 0#16, 0xFFFF0000#32, false, fun w => k (w.setWidth 16)⟩ := by
  intro w j
  have hmask : argField 0xFFFF0000#32 = 0#16 := by decide
  rw [accepts_iff_fields op _ (by decide) (by decide), hmask]
  simp [and_assoc, formHalf, argField_eq_setWidth]

/-- Form `sel`: the mask leaves three bits of the operand free, and the row's constraint takes five numbers. -/
theorem rowsAgree_sel {α : Type} {sel : Half → Option α} {k : α → Instr} {l : List α} {d : α}
    (hsel : ∀ arg f, sel arg = some f ↔ arg.toNat ≤ 4 ∧ l.getD arg.toNat d = f) :
    RowsAgree (op, fun arg => orReject q ((sel arg).map k))
      ⟨commandWord op 0#16, 0xFFFFFFF8#32, true, fun w => k (l.getD (w.toNat % 8) d)⟩ := by
  intro w j
  rw [accepts_iff_fields op _ (by decide) (by decide), orReject_eq_ok_iff, Option.map_eq_some_iff]
  have hle : (argField w).toNat ≤ 4 →
      argField w &&& argField 0xFFFFFFF8#32 = 0#16 ∧ w.toNat % 8 = (argField w).toNat := fun hle => by
    refine ⟨?_, by simp [argField] at hle ⊢; omega⟩
    rcases le_four_cases hle with h | h | h | h | h <;> rw [h] <;> decide
  simp only [hsel, and_assoc, true_imp_iff]
  constructor
  · rintro ⟨hop, hr, f, harg, rfl, rfl⟩
    exact ⟨hop, hr, (hle harg).1, harg, by rw [(hle harg).2]⟩
  · rintro ⟨hop, hr, -, harg, rfl⟩
    exact ⟨hop, hr, _, harg, rfl, by rw [(hle harg).2]⟩

end forms

/-- The selectors of `SMP.RD` in the order of their numbers (41_codec.md R136). -/
theorem sampleSelOf_eq_some_iff_getD (arg : Half) (f : SampleSel) : sampleSelOf arg = some f ↔
    arg.toNat ≤ 4 ∧ [.duty, .ref, .avg, .mstate, .motorClass].getD arg.toNat .duty = f := by
  by_cases hle : arg.toNat ≤ 4
  · rcases le_four_cases hle with h | h | h | h | h <;> simp [h, sampleSelOf]
  · simp [sampleSelOf_eq_none_iff.2 (Nat.lt_of_not_le hle), hle]

/-- The selectors of `MET.RD` in the order of their numbers (42_history.md R167). -/
theorem metricSelOf_eq_some_iff_getD (arg : Half) (f : MetricSel) : metricSelOf arg = some f ↔
    arg.toNat ≤ 4 ∧ [.pctm, .pctr, .devn, .sum, .hcnt].getD arg.toNat .pctm = f := by
  by_cases hle : arg.toNat ≤ 4
  · rcases le_four_cases hle with h | h | h | h | h <;> simp [h, metricSelOf]
  · simp [metricSelOf_eq_none_iff.2 (Nat.lt_of_not_le hle), hle]

/-- The decoder's rows are the table's, in the same order. -/
theorem opTable_rowsAgree : List.Forall₂ RowsAgree opTable opcodeRows := by
  simp only [opTable, opcodeRows, List.cons_append, List.nil_append, List.forall₂_cons, List.forall₂_nil_left_iff]
  exact ⟨rowsAgree_none, rowsAgree_none, rowsAgree_none, rowsAgree_byte, rowsAgree_none, rowsAgree_half,
    rowsAgree_none, rowsAgree_none, rowsAgree_byte, rowsAgree_none, rowsAgree_sel sampleSelOf_eq_some_iff_getD,
    rowsAgree_none, rowsAgree_half, rowsAgree_half, rowsAgree_half, rowsAgree_sel metricSelOf_eq_some_iff_getD,
    trivial⟩

/-- Lists that agree member by member agree on whether a member exists. -/
theorem exists_mem_congr_of_forall₂ {α β : Type} {R : α → β → Prop} {P : α → Prop} {Q : β → Prop}
    (hR : ∀ a b, R a b → (P a ↔ Q b)) {l : List α} {m : List β} (h : List.Forall₂ R l m) :
    (∃ a ∈ l, P a) ↔ ∃ b ∈ m, Q b := by
  induction h with
  | nil => simp
  | cons hab _ ih => simp [hR _ _ hab, ih]

/-- The decoder accepts what one of its rows accepts. -/
theorem decodeCommand_eq_ok_iff (w : Word) (i : Instr) : decodeCommand w = .ok i ↔
    ∃ row ∈ opTable, opField w = row.1 ∧ rsvField w = 0#8 ∧ row.2 (argField w) = .ok i := by
  constructor
  · intro h
    rcases decodeCommand_cases w with ⟨-, hd⟩ | ⟨-, -, hd⟩ | ⟨hr, row, hrow, hop, hd⟩
    · cases hd.symm.trans h
    · cases hd.symm.trans h
    · exact ⟨row, hrow, hop.symm, hr, hd.symm.trans h⟩
  · rintro ⟨row, hrow, hop, hr, hi⟩
    rw [decodeCommand_of_row hrow hop hr, hi]

/-- A row of the table selects words of its own operation code alone. -/
theorem opField_of_accepts {r : Row} (hr : r ∈ opcodeRows) {w : Word} (h : r.accepts w) :
    opField w = opField r.mat := by
  have hmask : ∀ r ∈ opcodeRows, opField r.mask = BitVec.allOnes 8 := by decide
  rw [← h.1, opField_and, hmask r hr, BitVec.and_allOnes]

/-- The operation codes of the table's rows are distinct. -/
theorem opcodeRows_opField_nodup : (opcodeRows.map (fun r => opField r.mat)).Nodup := by decide

end Sys2Proof.Machine

/-! SUPPORT. The pseudo-operations of 30_encoding.md R92 as runs: a byte operation presented once per byte folds its
effect over the bytes, and what the fold leaves in `CRC` and in the receive buffer. -/

namespace Sys2Proof.Machine

open Sys2Proof.Claims

/-- An operation presented once per byte runs to the fold of its effect, when its effect does not depend on what is
still presented. -/
theorem run_of_byteOps {word : Byte → Word} {op : Byte → State → State}
    (hstep : ∀ b s rest, s.port = command (word b) :: rest → step s = .next (op b { s with port := rest }))
    (hport : ∀ b s rest, op b { s with port := rest } = { op b s with port := rest })
    (bytes : List Byte) (s : State) (rest : List Input)
    (hp : s.port = bytes.map (fun b => command (word b)) ++ rest) :
    RunsTo bytes.length s (bytes.foldl (fun t b => op b t) { s with port := rest }) := by
  induction bytes generalizing s with
  | nil => simp [RunsTo, ← show s.port = rest from hp]
  | cons b bytes ih =>
    have hu := hport b s (bytes.map (fun b => command (word b)) ++ rest)
    have hrun := ih (op b { s with port := bytes.map (fun b => command (word b)) ++ rest }) (by rw [hu])
    rw [hu] at hrun
    rw [List.foldl_cons, hport]
    exact (runSteps_succ _ ((hstep b s _ hp).trans (congrArg _ hu))).trans hrun

/-- What `CK.ABS b` does to the state (40_checksum.md R106). -/
def absorbByte (b : Byte) (s : State) : State :=
  respond .ok ((crc8Byte s.crc b).setWidth 32) { s with crc := crc8Byte s.crc b }

/-- A step that takes the word of `CK.ABS b` absorbs the byte. -/
theorem step_of_ckAbs (b : Byte) (s : State) (rest : List Input)
    (hp : s.port = command (0x11000000#32 ||| b.setWidth 32) :: rest) :
    step s = .next (absorbByte b { s with port := rest }) :=
  step_of_decode hp (decode_ckAbs b)

/-- A step that takes the word of `RX.PUSH b` receives the byte. -/
theorem step_of_rxPush (b : Byte) (s : State) (rest : List Input)
    (hp : s.port = command (0x31000000#32 ||| b.setWidth 32) :: rest) :
    step s = .next (pushByte b { s with port := rest }) :=
  step_of_decode hp (decode_rxPush b)

/-- Absorbing bytes folds the checksum over them (40_checksum.md R108) and takes nothing from the port. -/
theorem foldl_absorbByte (bytes : List Byte) (s : State) :
    (bytes.foldl (fun t b => absorbByte b t) s).crc = crc8From s.crc bytes ∧
      (bytes.foldl (fun t b => absorbByte b t) s).port = s.port := by
  induction bytes generalizing s with
  | nil => exact ⟨rfl, rfl⟩
  | cons b bytes ih => exact ih (absorbByte b s)

/-- Receiving a byte does not depend on what is still presented. -/
theorem pushByte_with_port (b : Byte) (s : State) (rest : List Input) :
    pushByte b { s with port := rest } = { pushByte b s with port := rest } := by
  rcases pushByte_cases b s with ⟨hn, h⟩ | ⟨hn, h⟩
  · rw [h]; exact pushByte_of_room b hn
  · rw [h]; exact pushByte_of_full b hn

/-- The receive buffer after the bytes since it was emptied (41_codec.md R127, R128): `RXN` counts them up to nine, and
the first eight of them are in `RXB`. -/
def State.Received (s : State) (bytes : List Byte) : Prop :=
  s.rxn.toNat = min bytes.length 9 ∧ ∀ k : Fin 8, k.val < bytes.length → bytes[k.val]? = some s.rxb[k]

/-- One more byte received. -/
theorem State.Received.push {s : State} {bytes : List Byte} (h : s.Received bytes) (b : Byte) :
    (pushByte b s).Received (bytes ++ [b]) := by
  obtain ⟨hn, hb⟩ := h
  rcases pushByte_cases b s with ⟨hroom, hpush⟩ | ⟨hfull, hpush⟩ <;> rw [hpush]
  · have hlen : s.rxn.toNat = bytes.length := by omega
    refine ⟨by simp; bv_omega, fun k hk => ?_⟩
    rcases Nat.lt_succ_iff_lt_or_eq.1 (show k.val < bytes.length + 1 by simpa using hk) with hlt | heq
    · simpa [hlen, hlt, Vector.getElem_setIfInBounds, hlt.ne', List.getElem?_append] using hb k hlt
    · simp [hlen, ← heq]
  · refine ⟨by simp; omega, fun k hk => ?_⟩
    have hlt : k.val < bytes.length := by omega
    simpa [hlt, List.getElem?_append] using hb k hlt

/-- Bytes received into an empty buffer are the buffer's. -/
theorem received_foldl_pushByte {s : State} (hn : s.rxn = 0#4) (bytes : List Byte) :
    (bytes.foldl (fun t b => pushByte b t) s).Received bytes := by
  induction bytes using List.reverseRecOn with
  | nil => exact ⟨by simp [hn], nofun⟩
  | append_singleton bytes b ih => rw [List.foldl_concat]; exact ih.push b

/-- The state after `RX.FRAME` of the bytes, with the inputs that are presented next. -/
def afterRxFrame (bytes : List Byte) (rest : List Input) (s : State) : State :=
  bytes.foldl (fun t b => pushByte b t) (respond .ok 0#32 (emptyBuffer { s with port := rest }))

/-- `RX.FRAME` takes its own words alone. -/
@[simp] theorem afterRxFrame_port (bytes : List Byte) (rest : List Input) (s : State) :
    (afterRxFrame bytes rest s).port = rest :=
  foldl_pushByte_keeps (·.port) pushByte_port bytes _

/-- `RX.FRAME` empties the buffer and receives the bytes (30_encoding.md R92). -/
theorem run_of_rxFrame {bytes : List Byte} {s : State} {rest : List Input}
    (hp : s.port = command 0x30000000#32 ::
      (bytes.map (fun b => command (0x31000000#32 ||| b.setWidth 32)) ++ rest)) :
    RunsTo (bytes.length + 1) s (afterRxFrame bytes rest s) :=
  (runSteps_succ _ (step_of_decode (i := .rxClr) hp rfl)).trans
    (run_of_byteOps step_of_rxPush pushByte_with_port bytes _ rest rfl)

/-- `CK.MSG` clears the checksum, absorbs the bytes and reads the checksum (R92). -/
theorem run_of_ckMsg {bytes : List Byte} {s : State} {rest : List Input}
    (hp : s.port = command 0x10000000#32 ::
      (bytes.map (fun b => command (0x11000000#32 ||| b.setWidth 32)) ++ command 0x12000000#32 :: rest)) :
    ∃ v : State, v.crc = crc8 bytes ∧
      RunsTo (bytes.length + 2) s (respond .ok (v.crc.setWidth 32) { v with port := rest }) := by
  obtain ⟨hcrc, hport⟩ := foldl_absorbByte bytes
    (respond .ok 0#32 { s with port := command 0x12000000#32 :: rest, crc := Config.init })
  refine ⟨_, hcrc, ?_⟩
  calc runSteps (bytes.length + 2) s
    _ = runSteps (bytes.length + 1) _ := runSteps_succ _ (step_of_decode (i := .ckClr) hp rfl)
    _ = runSteps 1 _ := runSteps_add 1 (run_of_byteOps step_of_ckAbs (fun _ _ _ => rfl) bytes _ _ rfl)
    _ = some _ := runSteps_succ 0 (step_of_decode (i := .ckRd) hport rfl)

/-- `TLM.CYCLE` is `RX.FRAME`, then a decode, then `SMP.ACC` from the state the decode leaves (R92). -/
theorem run_of_tlmCycle {bytes : List Byte} {s : State} {rest : List Input}
    (hp : s.port = command 0x30000000#32 :: (bytes.map (fun b => command (0x31000000#32 ||| b.setWidth 32)) ++
      command 0x32000000#32 :: command 0x40000000#32 :: rest)) :
    ∃ u t : State, RunsTo (bytes.length + 2) s u ∧ RunsTo (bytes.length + 3) s t ∧
      exec .smpAcc { u with port := rest } = .next t := by
  obtain ⟨u, hu, hport⟩ : ∃ u, RunsTo (bytes.length + 2) s u ∧ u.port = command 0x40000000#32 :: rest :=
    ⟨_, (runSteps_add 1 (run_of_rxFrame hp)).trans
      (runSteps_succ 0 (step_of_decode (i := .dec) (afterRxFrame_port bytes _ s) rfl)), decodeBuffer_port _⟩
  obtain ⟨t, ht⟩ := exec_total .smpAcc { u with port := rest }
  have hacc : step u = .next t := (step_of_decode hport rfl).trans ht
  exact ⟨u, t, hu, (runSteps_add 1 hu).trans (runSteps_succ 0 hacc), ht⟩

/-- Without a validated sample `SMP.ACC` answers NOSAMPLE and changes no register (42_history.md R160). -/
theorem exec_smpAcc_of_not_valid {s : State} (hv : s.outcome ≠ .valid) :
    exec .smpAcc s = .next (raiseStatus .noSample 0#32 s) := by
  simp [exec, execSmpAcc, hv]

/-- `SMP.ACC` takes nothing from the port. -/
theorem port_of_exec_smpAcc {s t : State} (h : exec .smpAcc s = .next t) : t.port = s.port := by
  cases effect_of_exec h with
  | answer _ hi => cases hi
  | noSample => rfl
  | smpAcc => simp

end Sys2Proof.Machine

/-! The obligations of the encoding rules: O60 (30_encoding.md R92), O6 (R88), O7 (R84), O24 (R82). -/

namespace Sys2Proof.Proofs

open Sys2Proof.Machine Sys2Proof.Claims

/-- Settles O60: the expansions word by word, and the runs as folds over the bytes. -/
theorem pseudoOperationsDoWhatTheyAreFor : Obligations.PseudoOperationsDoWhatTheyAreFor := by
  refine ⟨fun bytes => ?_, fun bytes s rest hp => ?_, fun bytes s rest hp => ?_, fun bytes s rest hp => ?_⟩
  · simp [asInputs, ckMsg, rxFrame, tlmCycle, encode, command, commandWord, Function.comp_def]
  · obtain ⟨v, hcrc, hrun⟩ := run_of_ckMsg hp
    exact ⟨_, hrun, rfl, by simp [hcrc], hcrc⟩
  · have hbuffer := received_foldl_pushByte (s := respond .ok 0#32 (emptyBuffer { s with port := rest })) rfl bytes
    exact ⟨_, run_of_rxFrame hp, afterRxFrame_port bytes rest s, hbuffer⟩
  · obtain ⟨u, t, hu, ht, hacc⟩ := run_of_tlmCycle hp
    exact ⟨u, t, hu, ht, port_of_exec_smpAcc hacc,
      fun hv => Host.Outcome.next.inj (hacc.symm.trans (exec_smpAcc_of_not_valid hv)), fun _ => hacc⟩

/-- Settles O6: the decoder rejects the illegal words and no other, and a rejected word is answered. -/
theorem illegalWordsOnlySetEill : Obligations.IllegalWordsOnlySetEill := by
  refine ⟨fun w hw => ⟨fun s rest hp => step_of_illegalWord hw hp, fun i hi => ?_⟩, fun w hw => ?_⟩
  · obtain ⟨r, hr⟩ := (decodeCommand_rejects_iff w).2 hw
    cases hr.symm.trans hi
  · rcases hd : decodeCommand w with r | i
    · exact absurd ((decodeCommand_rejects_iff w).1 ⟨r, hd⟩) hw
    · exact ⟨i, hd⟩

/-- Settles O7: row by row, the decoder's table is the table of R84; the operation codes keep its rows apart. -/
theorem decoderFollowsTheOpcodeTable : Obligations.DecoderFollowsTheOpcodeTable := by
  refine ⟨fun w i => ?_, ?_⟩
  · exact (decodeCommand_eq_ok_iff w i).trans
      (exists_mem_congr_of_forall₂ (fun row r hagree => hagree w i) opTable_rowsAgree)
  · refine (List.pairwise_map.1 opcodeRows_opField_nodup).imp_of_mem fun hr hr' hne w hw => hne ?_
    rw [← opField_of_accepts hr hw.1, ← opField_of_accepts hr' hw.2]

/-- Settles O24: by the arithmetic of the two bytes. -/
theorem fieldBytesRoundTrip : Obligations.FieldBytesRoundTrip :=
  ⟨le16_toNat, fun v => ⟨loByte_toNat v, hiByte_toNat v⟩, le16_loByte_hiByte,
    fun lo hi => ⟨loByte_le16 lo hi, hiByte_le16 lo hi⟩⟩

end Sys2Proof.Proofs

/-! SUPPORT. One byte of the checksum (40_checksum.md R101, R102): the bit loop sees its two bytes through their
exclusive or alone, so `crc8_byte(crc, b)` is a function of `crc ^ b` (R104). -/

namespace Sys2Proof.Machine

/-- One bit iteration (R101) on the exclusive or of the running value and the working byte. -/
def shiftBit (x : Byte) : Byte := if x.getLsbD 7 then x <<< 1 ^^^ Config.poly else x <<< 1

/-- A bit iteration acts on the exclusive or of its two bytes. -/
theorem crc8Bit_xor (c w : Byte) : (crc8Bit c w).1 ^^^ (crc8Bit c w).2 = shiftBit (c ^^^ w) := by
  simp only [crc8Bit, shiftBit, BitVec.shiftLeft_xor_distrib]
  split
  · ac_rfl
  · rfl

/-- Bit iterations in a row act on the exclusive or of their two bytes. -/
theorem crc8Bits_xor (n : Nat) (c w : Byte) : (crc8Bits n c w).1 ^^^ (crc8Bits n c w).2 = shiftBit^[n] (c ^^^ w) := by
  induction n generalizing c w with
  | zero => rfl
  | succ n ih => rw [crc8Bits, ih, crc8Bit_xor, Function.iterate_succ_apply]

/-- Bit iterations shift the working byte, whatever the running value. -/
theorem crc8Bits_working (n : Nat) (c w : Byte) : (crc8Bits n c w).2 = w <<< n := by
  induction n generalizing c w with
  | zero => simp [crc8Bits]
  | succ n ih => rw [crc8Bits, ih, crc8Bit, ← BitVec.shiftLeft_add, Nat.add_comm]

/-- Eight bit iterations shift the working byte out, so the byte step is a function of the exclusive or (R104). -/
theorem crc8Byte_eq_shiftBit (c b : Byte) : crc8Byte c b = shiftBit^[8] (c ^^^ b) := by
  have hout : (crc8Bits 8 c b).2 = 0#8 := by
    rw [crc8Bits_working]
    exact BitVec.shiftLeft_eq_zero (Nat.le_refl 8)
  rw [← crc8Bits_xor, hout, BitVec.xor_zero, crc8Byte]

/-- A byte equal to the running checksum makes it zero (R106, R110). -/
@[simp] theorem crc8Byte_self (c : Byte) : crc8Byte c c = 0#8 := by
  rw [crc8Byte_eq_shiftBit, BitVec.xor_self]
  decide

/-- The table of R113 holds the eight bit iterations of each of its 256 indices. -/
theorem crcTable_getElem? : ∀ x : Byte, Claims.crcTable[x.toNat]? = some (shiftBit^[8] x) := by
  decide +kernel

end Sys2Proof.Machine

/-! SUPPORT. The operation codes whose operand form makes a word illegal (30_encoding.md R88 (b) to (d)). -/

namespace Sys2Proof.Machine

open Sys2Proof.Claims

/-- An illegal command word is answered ILLEGAL. -/
theorem answeredIllegal_of_illegalWord {w : Word} (hw : IllegalWord w) : AnsweredIllegal w :=
  fun _ _ hp => step_of_illegalWord hw hp

/-- The codes of form `none` take neither an operand nor reserved bits. -/
theorem takesNoOperand_of_mem {op : Byte}
    (hop : op ∈ [0x01#8, 0x02#8, 0x10#8, 0x12#8, 0x22#8, 0x30#8, 0x32#8, 0x40#8]) : TakesNoOperand op := by
  rintro w rfl (harg | hrsv)
  · exact answeredIllegal_of_illegalWord (.inr (.inr (.inl ⟨hop, harg⟩)))
  · exact answeredIllegal_of_illegalWord (.inr (.inl hrsv))

/-- The codes of form `byte` take neither an operand above 255 nor reserved bits. -/
theorem takesByte_of_mem {op : Byte} (hop : op ∈ [0x11#8, 0x31#8]) : TakesByte op := by
  rintro w rfl (harg | hrsv)
  · exact answeredIllegal_of_illegalWord (.inr (.inr (.inr (.inl ⟨hop, harg⟩))))
  · exact answeredIllegal_of_illegalWord (.inr (.inl hrsv))

end Sys2Proof.Machine

/-! SUPPORT. Who writes and who reads `CRC` (10_state.md R24, 40_checksum.md R114). -/

namespace Sys2Proof.Machine

/-- `CRC` is written by `SYS.RST`, `CK.CLR` and `CK.ABS` alone (R24). -/
theorem Effect.crc_cases {i : Instr} {s t : State} (h : Effect s i t) :
    t.crc = s.crc ∨ (i = .sysRst ∧ t.crc = 0#8) ∨ (i = .ckClr ∧ t.crc = 0#8) ∨
      (∃ b, i = .ckAbs b ∧ t.crc = crc8Byte s.crc b) := by
  cases h with
  | sysRst => exact .inr (.inl ⟨rfl, rfl⟩)
  | ckClr => exact .inr (.inr (.inl ⟨rfl, rfl⟩))
  | ckAbs b => exact .inr (.inr (.inr ⟨b, rfl, rfl⟩))
  | telemetry duty ref avg mstate crc =>
    left
    rw [decodeBuffer_crc]
    exact foldl_pushByte_keeps (·.crc) pushByte_crc _ s
  | _ => exact .inl (by simp)

/-- A decode of eight bytes with a wrong last byte is a mismatch (41_codec.md R132). -/
theorem decodeBuffer_of_mismatch {s : State} (hn : s.rxn = 8#4) (hc : crc8 (rxPayload s.rxb) ≠ s.rxb[7]) :
    decodeBuffer s = respond .ckMismatch (((crc8 (rxPayload s.rxb)).setWidth 32 <<< 8) ||| (s.rxb[7]).setWidth 32)
      (setOutcome .ckMismatch (emptyBuffer s)) := by
  simp [decodeBuffer, hn, hc]

/-- A decode of eight bytes with the right last byte loads the sample (R132). -/
theorem decodeBuffer_of_match {s : State} (hn : s.rxn = 8#4) (hc : crc8 (rxPayload s.rxb) = s.rxb[7]) :
    decodeBuffer s = respond .ok 0#32 (setOutcome .valid (loadSample s.rxb (emptyBuffer s))) := by
  simp [decodeBuffer, hn, hc]

/-- A decode does the same from any other `CRC` and keeps it: its own checksum starts at zero (R114). -/
theorem decodeBuffer_with_crc (c : Byte) (s : State) :
    decodeBuffer { s with crc := c } = { decodeBuffer s with crc := c } := by
  rcases decodeBuffer_cases s with ⟨hn, h⟩ | ⟨hn, hc, h⟩ | ⟨hn, hc, h⟩ <;> rw [h]
  · exact decodeBuffer_of_rxn_ne hn
  · exact decodeBuffer_of_mismatch hn hc
  · exact decodeBuffer_of_match hn hc

end Sys2Proof.Machine

/-! The obligations of the checksum rules: O19 (40_checksum.md R104, R113), O23 (R114), O16 (R105), O17 (R106),
O18 (R107). -/

namespace Sys2Proof.Proofs

open Sys2Proof.Machine Sys2Proof.Claims

/-- Settles O19: both the bit loop and the table are the eight bit iterations of `crc ^ b`. -/
theorem byteStepIsTheTableLookup : Obligations.ByteStepIsTheTableLookup := by
  intro c b
  rw [crcTable_getElem?, crc8Byte_eq_shiftBit]

/-- Settles O23: by the effects of the instructions, and by each codec operation from another `CRC`. -/
theorem codecDoesNotTouchTheChecksumRegister : Obligations.CodecDoesNotTouchTheChecksumRegister := by
  refine ⟨fun i s t h => (effect_of_exec h).crc_cases, fun i s t c hi h => ?_⟩
  rcases hi with ⟨rpm, rfl⟩ | rfl | rfl <;> cases h
  · rfl
  · rfl
  · exact congrArg _ (decodeBuffer_with_crc c s)

/-- Settles O16: the operation is its meaning, and its words with an operand are illegal. -/
theorem ckClrClearsTheChecksum : Obligations.CkClrClearsTheChecksum :=
  ⟨fun _ => rfl, rfl, takesNoOperand_of_mem (by decide)⟩

/-- Settles O17: the operation is its meaning, its words are those of a byte, and a byte cancels its equal. -/
theorem ckAbsAbsorbsOneByte : Obligations.CkAbsAbsorbsOneByte :=
  ⟨fun _ _ => rfl, decode_ckAbs, takesByte_of_mem (by decide), crc8Byte_self _, crc8Byte_self, by decide⟩

/-- Settles O18: `CK.CLR` and `CK.RD` word by word, and the example as an instance of `CK.MSG`. -/
theorem ckRdAnswersTheChecksum : Obligations.CkRdAnswersTheChecksum := by
  refine ⟨fun _ => rfl, rfl, takesNoOperand_of_mem (by decide), fun s rest hp => ?_, fun s rest hp => ?_⟩
  · have hclr := step_of_decode (i := .ckClr) hp rfl
    have hrd : step (respond .ok 0#32 { s with port := command 0x12000000#32 :: rest, crc := Config.init }) = _ :=
      step_of_decode (i := .ckRd) rfl rfl
    refine ((runSteps_succ 1 hclr).trans (runSteps_succ 0 hrd)).trans ?_
    simp [respond]
  · obtain ⟨v, hcrc, hrun⟩ := run_of_ckMsg (bytes := [2#8, 0#8, 0#8]) hp
    have hsum : v.crc = 0xD6#8 := hcrc.trans (by decide +kernel)
    exact ⟨_, hrun, hsum, by simp [hsum]⟩

end Sys2Proof.Proofs

/-! SUPPORT. The checksum sees every change of one byte (40_checksum.md R110, R112, 41_codec.md R134): the byte step
loses nothing, so messages that differ in one byte differ in their checksum, and a valid frame sums to zero. -/

namespace Sys2Proof.Machine

/-- A bit iteration loses nothing: the lowest bit of its result is the bit it shifted out. -/
theorem shiftBit_injective : Function.Injective shiftBit := by
  have hout : ∀ z : Byte, (shiftBit z).getLsbD 0 = z.getLsbD 7 := fun z => by
    unfold shiftBit
    split <;> simp_all [Config.poly]
  intro x y h
  have htop : x.getLsbD 7 = y.getLsbD 7 := by rw [← hout, h, hout]
  have hshift : x <<< 1 = y <<< 1 := by
    unfold shiftBit at h
    rw [htop] at h
    split at h
    · exact (BitVec.xor_left_inj _).1 h
    · exact h
  apply BitVec.eq_of_getLsbD_eq
  intro i hi
  rcases Nat.lt_succ_iff_lt_or_eq.1 hi with hlt | rfl
  · simpa [show i + 1 < 8 by omega, BitVec.getLsbD_eq_getElem, hi] using congrArg (·.getLsbD (i + 1)) hshift
  · exact htop

/-- Two byte steps agree exactly where the exclusive or of their two bytes does. -/
theorem crc8Byte_eq_iff {c b c' b' : Byte} : crc8Byte c b = crc8Byte c' b' ↔ c ^^^ b = c' ^^^ b' := by
  rw [crc8Byte_eq_shiftBit, crc8Byte_eq_shiftBit]
  exact (shiftBit_injective.iterate 8).eq_iff

/-- The same bytes keep two running checksums apart. -/
theorem crc8From_injective (bytes : List Byte) : Function.Injective (crc8From · bytes) := by
  induction bytes with
  | nil => exact fun _ _ h => h
  | cons b bytes ih => exact fun c c' h => (BitVec.xor_left_inj _).1 (crc8Byte_eq_iff.1 (ih h))

/-- The checksum of bytes in a row. -/
theorem crc8_append (p q : List Byte) : crc8 (p ++ q) = crc8From (crc8 p) q :=
  List.foldl_append

/-- Messages that differ in one byte have different checksums. -/
theorem crc8_ne_of_one_byte {p q : List Byte} {x y : Byte} (h : x ≠ y) : crc8 (p ++ x :: q) ≠ crc8 (p ++ y :: q) := by
  rw [crc8_append, crc8_append]
  exact fun heq => h ((BitVec.xor_right_inj _).1 (crc8Byte_eq_iff.1 (crc8From_injective q heq)))

/-- A byte is a message's checksum exactly when the two together sum to zero. -/
theorem crc8_eq_iff_residue {p : List Byte} {b : Byte} : crc8 p = b ↔ crc8 (p ++ [b]) = 0#8 := by
  rw [crc8_append, ← crc8Byte_self (crc8 p)]
  exact ⟨fun h => h ▸ rfl, fun h => ((BitVec.xor_right_inj _).1 (crc8Byte_eq_iff.1 h)).symm⟩

/-- The receive buffer is its seven payload bytes and its checksum byte. -/
theorem toList_eq_rxPayload (rxb : Vector Byte 8) : rxb.toList = rxPayload rxb ++ [rxb[7]] := by
  refine List.ext_getElem (by simp [rxPayload]) fun i hi _ => ?_
  have hi8 : i < 8 := by simpa using hi
  interval_cases i <;> simp [rxPayload]

/-- A frame is valid when its eight bytes sum to zero. -/
theorem rxPayload_valid_iff (rxb : Vector Byte 8) : crc8 (rxPayload rxb) = rxb[7] ↔ crc8 rxb.toList = 0#8 := by
  rw [toList_eq_rxPayload, crc8_eq_iff_residue]

/-- Any one changed byte changes the sum of the buffer. -/
theorem crc8_set_ne {rxb : Vector Byte 8} {k : Fin 8} {v : Byte} (hv : v ≠ rxb[k]) :
    crc8 (rxb.set k v).toList ≠ crc8 rxb.toList := by
  have hk : k.val < rxb.toList.length := by simp
  conv_rhs => rw [← List.set_getElem_self hk]
  rw [Vector.toList_set, List.set_eq_take_append_cons_drop, if_pos hk, List.set_eq_take_append_cons_drop, if_pos hk]
  exact crc8_ne_of_one_byte (by simpa using hv)

end Sys2Proof.Machine

/-! SUPPORT. A whole exchange (41_codec.md R130): bytes received after `RX.CLR` and decoded. -/

namespace Sys2Proof.Machine

open Sys2Proof.Claims

/-- Receiving a byte writes the receive buffer and the responses alone. -/
theorem pushByte_writes (b : Byte) (s : State) :
    ∃ x n o, pushByte b s = { s with rxb := x, rxn := n, out := o } := by
  rcases pushByte_cases b s with ⟨-, h⟩ | ⟨-, h⟩ <;> exact ⟨_, _, _, h⟩

/-- Receiving any number of bytes writes the receive buffer and the responses alone. -/
theorem foldl_pushByte_writes (bytes : List Byte) (s : State) :
    ∃ x n o, bytes.foldl (fun t b => pushByte b t) s = { s with rxb := x, rxn := n, out := o } := by
  induction bytes generalizing s with
  | nil => exact ⟨_, _, _, rfl⟩
  | cons b bytes ih =>
    obtain ⟨x, n, o, hfold⟩ := ih (pushByte b s)
    obtain ⟨_, _, _, hpush⟩ := pushByte_writes b s
    exact ⟨x, n, o, hfold.trans (by rw [hpush])⟩

/-- `RX.FRAME` and `DEC` decode the received bytes, from a state that differs in the receive buffer and the responses
alone (41_codec.md R130). -/
theorem run_of_rxFrame_dec {bytes : List Byte} {s : State} {rest : List Input}
    (hp : s.port = command 0x30000000#32 :: (bytes.map (fun b => command (0x31000000#32 ||| b.setWidth 32)) ++
      command 0x32000000#32 :: rest)) :
    ∃ x n o, State.Received { s with port := rest, rxb := x, rxn := n, out := o } bytes ∧
      RunsTo (bytes.length + 2) s (decodeBuffer { s with port := rest, rxb := x, rxn := n, out := o }) := by
  have hrun := run_of_rxFrame hp
  have hrec : (afterRxFrame bytes (command 0x32000000#32 :: rest) s).Received bytes :=
    received_foldl_pushByte rfl bytes
  obtain ⟨x, n, o, hu⟩ : ∃ x n o, afterRxFrame bytes (command 0x32000000#32 :: rest) s =
    { s with port := command 0x32000000#32 :: rest, rxb := x, rxn := n, out := o } := foldl_pushByte_writes bytes _
  rw [hu] at hrun hrec
  exact ⟨x, n, o, hrec, (runSteps_add 1 hrun).trans (runSteps_succ 0 (step_of_decode (i := .dec) rfl rfl))⟩

/-- The buffer counts eight bytes exactly after eight. -/
theorem State.Received.rxn_eq_iff {s : State} {bytes : List Byte} (h : s.Received bytes) :
    s.rxn = 8#4 ↔ bytes.length = 8 := by
  have hn := h.1
  rw [← BitVec.toNat_inj, BitVec.toNat_ofNat]
  omega

/-- The eight bytes received are those of the buffer. -/
theorem State.Received.toList_rxb {s : State} {bytes : List Byte} (h : s.Received bytes) (h8 : bytes.length = 8) :
    s.rxb.toList = bytes := by
  refine List.ext_getElem (by simp [h8]) fun i hi hib => ?_
  simpa [hib] using (h.2 ⟨i, h8 ▸ hib⟩ hib).symm

/-- Seven bytes and an eighth are received as the payload and the checksum byte. -/
theorem State.Received.frame {s : State} {p : List Byte} {c : Byte} (h : s.Received (p ++ [c])) (hp : p.length = 7) :
    s.rxn = 8#4 ∧ rxPayload s.rxb = p ∧ s.rxb[7] = c := by
  have h8 : (p ++ [c]).length = 8 := by simp [hp]
  have hbuffer := h.toList_rxb h8
  rw [toList_eq_rxPayload] at hbuffer
  exact ⟨h.rxn_eq_iff.2 h8, by simpa using List.append_inj' hbuffer rfl⟩

end Sys2Proof.Machine

/-! SUPPORT. The command frames as words (41_codec.md R122, 30_encoding.md R76), the words of `ENC.SPD` and the codes
whose operand form makes a word illegal (R88 (b), (e)). -/

namespace Sys2Proof.Machine

open Sys2Proof.Claims

/-- Byte `k` of a frame is at bits `8k+7 : 8k` of its word (20_memory.md R53). -/
theorem word4_byte {bs : List Byte} {k : Nat} (hk : k < bs.length) (h4 : k < 4) :
    (word4 bs).extractLsb' (8 * k) 8 = bs[k] := by
  induction bs generalizing k with
  | nil => cases hk
  | cons b bs ih =>
    apply BitVec.eq_of_getLsbD_eq
    intro i hi
    cases k with
    | zero => simp [word4, hi, show i < 32 by omega]
    | succ k =>
      have hhead : b.getLsbD (8 * (k + 1) + i) = false := BitVec.getLsbD_of_ge b _ (by omega)
      have hup : 8 * (k + 1) + i - 8 = 8 * k + i := by omega
      rw [List.getElem_cons_succ, ← ih (Nat.lt_of_succ_lt_succ hk) (by omega)]
      simp [word4, hi, hhead, hup, BitVec.getLsbD_eq_getElem, show 8 * (k + 1) + i < 32 by omega,
        show 8 * k + i < 32 by omega, show ¬ 8 * (k + 1) + i < 8 by omega]

/-- The bytes of a command frame's word are the frame's (41_codec.md R122). -/
theorem word4_cmdframe_byte (kind : Byte) (data : Half) (k : Nat) (hk : k < 4) :
    (word4 (cmdframe kind data)).extractLsb' (8 * k) 8 = (cmdframe kind data)[k]'hk :=
  word4_byte hk hk

/-- The opcode table's packing of a command frame (30_encoding.md R76) is that of its bytes. -/
theorem wire4Word_eq_word4 (kind : Byte) (data : Half) (crc : Byte) :
    wire4Word kind data crc = word4 (cmdPayload kind data ++ [crc]) := by
  apply BitVec.eq_of_getLsbD_eq
  intro i hi
  interval_cases i <;> simp [wire4Word, cmdPayload, word4, loByte, hiByte]

/-- The SetSpeed frame that `ENC.SPD` answers is the encoding of a well-formed one (41_codec.md R123). -/
theorem setspeed_of_cmdframe (rpm : Half) : ∃ c : Byte,
    encode (.setspeed rpm c) = .wire4 (word4 (cmdframe Config.kindSetSpeed rpm)) ∧ (Instr.setspeed rpm c).wf = true :=
  ⟨crc8 (cmdPayload Config.kindSetSpeed rpm), congrArg Encoding.wire4 (wire4Word_eq_word4 ..), beq_self_eq_true _⟩

/-- The command word of `ENC.SPD rpm`. -/
theorem decode_encSpd (rpm : Half) : decode (.cmd32 (0x21000000#32 ||| rpm.setWidth 32)) = .ok (.encSpd rpm) :=
  decode_commandWord (row := (0x21#8, fun arg => .ok (formHalf arg .encSpd))) (by simp [opTable]) rpm

/-- No code takes reserved bits. -/
theorem takesHalf (op : Byte) : TakesHalf op :=
  fun _ _ hrsv => answeredIllegal_of_illegalWord (.inr (.inl hrsv))

/-- The codes of form `sel` take neither a selector above 4 nor reserved bits. -/
theorem takesSelector_of_mem {op : Byte} (hop : op ∈ [0x33#8, 0x44#8]) : TakesSelector op := by
  rintro w rfl (harg | hrsv)
  · exact answeredIllegal_of_illegalWord (.inr (.inr (.inr (.inr ⟨hop, harg⟩))))
  · exact answeredIllegal_of_illegalWord (.inr (.inl hrsv))

end Sys2Proof.Machine

/-! SUPPORT. What the codec operations do, case by case, with the whole next state (41_codec.md R123 to R132). -/

namespace Sys2Proof.Machine

/-- `ENC.SPD` answers the word of its frame (R123). -/
theorem exec_encSpd_of_word {rpm : Half} {d : Word} (hd : word4 (cmdframe Config.kindSetSpeed rpm) = d) (s : State) :
    exec (.encSpd rpm) s = .next { s with out := s.out ++ [⟨.ok, d⟩] } := by
  subst hd
  rfl

/-- `ENC.TRQ` answers the word of its frame (R124). -/
theorem exec_encTrq_of_word {d : Word} (hd : word4 (cmdframe Config.kindTelemReq 0#16) = d) (s : State) :
    exec .encTrq s = .next { s with out := s.out ++ [⟨.ok, d⟩] } := by
  subst hd
  rfl

/-- `RX.PUSH` with room (R127). -/
theorem exec_rxPush_of_room {s : State} (b : Byte) (hn : s.rxn.toNat < 8) :
    exec (.rxPush b) s = .next { s with
      rxb := s.rxb.setIfInBounds s.rxn.toNat b, rxn := s.rxn + 1#4,
      out := s.out ++ [⟨.ok, BitVec.ofNat 32 (s.rxn.toNat + 1)⟩] } := by
  have hdata : (s.rxn + 1#4).setWidth 32 = BitVec.ofNat 32 (s.rxn.toNat + 1) := by
    rw [← BitVec.ofNat_toNat]
    exact congrArg _ (by bv_omega)
  rw [← hdata]
  exact congrArg Host.Outcome.next (pushByte_of_room b hn)

/-- `RX.PUSH` when full (R128). -/
theorem exec_rxPush_of_full {s : State} (b : Byte) (hn : 8 ≤ s.rxn.toNat) :
    exec (.rxPush b) s = .next { s with rxn := 9#4, out := s.out ++ [⟨.rxFull, 9#32⟩] } :=
  congrArg Host.Outcome.next (pushByte_of_full b hn)

/-- `DEC` of any other number of bytes than eight (R132). -/
theorem exec_dec_of_rxn_ne {s : State} (hn : s.rxn ≠ 8#4) : exec .dec s = .next { s with
    rxn := 0#4, outcome := .incomplete, snew := false, out := s.out ++ [⟨.incomplete, s.rxn.setWidth 32⟩] } :=
  congrArg Host.Outcome.next (decodeBuffer_of_rxn_ne hn)

/-- `DEC` of eight bytes with a wrong last byte (R132). -/
theorem exec_dec_of_mismatch {s : State} (hn : s.rxn = 8#4) (hc : crc8 (rxPayload s.rxb) ≠ s.rxb[7]) :
    exec .dec s = .next { s with
      rxn := 0#4, outcome := .ckMismatch, snew := false,
      out := s.out ++ [⟨.ckMismatch, ((crc8 (rxPayload s.rxb)).setWidth 32 <<< 8) ||| (s.rxb[7]).setWidth 32⟩] } :=
  congrArg Host.Outcome.next (decodeBuffer_of_mismatch hn hc)

/-- `DEC` of eight bytes with the right last byte (R132). -/
theorem exec_dec_of_match {s : State} (hn : s.rxn = 8#4) (hc : crc8 (rxPayload s.rxb) = s.rxb[7]) :
    exec .dec s = .next { s with
      rxn := 0#4, duty := le16 s.rxb[0] s.rxb[1], ref := le16 s.rxb[2] s.rxb[3], avg := le16 s.rxb[4] s.rxb[5],
      mstate := s.rxb[6], outcome := .valid, snew := true, out := s.out ++ [⟨.ok, 0#32⟩] } :=
  congrArg Host.Outcome.next (decodeBuffer_of_match hn hc)

end Sys2Proof.Machine

/-! SUPPORT. The data words of `DEC` and `SMP.RD 4`, the decode function and the classifier
(41_codec.md R129, R132, R137, R140, R142). -/

namespace Sys2Proof.Machine

/-- The bits of a byte above a field of at most eight bits. -/
theorem getLsbD_byte_above {n : Nat} (hn : n ≤ 8) (hi : Byte) (lo : BitVec n) {i : Nat} (hlt : i < 32) :
    ((hi.setWidth 32 <<< 8) ||| lo.setWidth 32).getLsbD i = if i < 8 then lo.getLsbD i else hi.getLsbD (i - 8) := by
  have hlo : 8 ≤ i → lo.getLsbD i = false := fun h => BitVec.getLsbD_of_ge lo i (hn.trans h)
  split <;> simp_all

/-- A byte above a field of at most eight bits, as a data word: both read back, and the other bits are 0. -/
theorem extractLsb'_byte_above {n : Nat} (hn : n ≤ 8) (hi : Byte) (lo : BitVec n) :
    ((hi.setWidth 32 <<< 8) ||| lo.setWidth 32).extractLsb' 0 n = lo ∧
      ((hi.setWidth 32 <<< 8) ||| lo.setWidth 32).extractLsb' n (8 - n) = 0 ∧
      ((hi.setWidth 32 <<< 8) ||| lo.setWidth 32).extractLsb' 8 8 = hi ∧
      ((hi.setWidth 32 <<< 8) ||| lo.setWidth 32).extractLsb' 16 16 = 0 := by
  refine ⟨?_, ?_, ?_, ?_⟩ <;> apply BitVec.eq_of_getLsbD_eq <;> intro i hlt <;>
    rw [BitVec.getLsbD_extractLsb', getLsbD_byte_above hn hi lo (by omega)]
  · simp [hlt, show i < 8 by omega]
  · simp [show n + i < 8 by omega]
  · simp [hlt]
  · rw [if_neg (by omega), BitVec.getLsbD_of_ge hi _ (by omega)]
    simp

/-- The decode function answers both checksum bytes (R132). -/
theorem decodeFrame_of_ne {p : List Byte} {c : Byte} (hp : p.length = 7) (hc : crc8 p ≠ c) :
    decodeFrame (p ++ [c]) = .checksumMismatch (crc8 p) c := by
  match p, hp with
  | [b0, b1, b2, b3, b4, b5, b6], _ => exact if_pos hc

/-- A list of any other length than eight is incomplete (R129, R130). -/
theorem decodeFrame_of_length_ne {bytes : List Byte} (h : bytes.length ≠ 8) : decodeFrame bytes = .incomplete := by
  unfold decodeFrame
  split
  · exact absurd rfl h
  · rfl

/-- A code outside the table has class 15 (R140). -/
theorem classify_of_none {code : Byte} (h : mstTable code = none) : classify code = 15#4 := by
  simp [classify, h]

/-- A class index is one of the twelve, or 15 (R140, R141). -/
theorem classify_le_or_eq (code : Byte) : (classify code).toNat ≤ 11 ∨ classify code = 15#4 := by
  rcases h : mstTable code with _ | c
  · exact .inr (classify_of_none h)
  · have hindex : (classIndex c).toNat ≤ 11 := by cases c <;> decide
    exact .inl (by simpa [classify, h] using hindex)

/-- An unknown code reads back from selector 4 with class 15 (R142). -/
theorem sampleField_of_unknown {s : State} (h : mstTable s.mstate = none) :
    sampleField s .motorClass = (s.mstate.setWidth 32 <<< 8) ||| 15#32 := by
  simp [sampleField, classify_of_none h]

/-- Any one changed byte of a valid frame makes the decode a mismatch (R134). -/
theorem decodeBuffer_outcome_of_set {s : State} {k : Fin 8} {v : Byte} (hn : s.rxn = 8#4)
    (hc : crc8 (rxPayload s.rxb) = s.rxb[7]) (hv : v ≠ s.rxb[k]) :
    (decodeBuffer { s with rxb := s.rxb.set k v }).outcome = .ckMismatch := by
  have hne : crc8 (rxPayload (s.rxb.set k v)) ≠ (s.rxb.set k v)[7] := fun h =>
    crc8_set_ne hv (((rxPayload_valid_iff _).1 h).trans ((rxPayload_valid_iff _).1 hc).symm)
  obtain ⟨-, hmismatch, -⟩ := decodeBuffer_result { s with rxb := s.rxb.set k v }
  exact (hmismatch hn hne).1

end Sys2Proof.Machine

/-! The obligations of the codec rules: O34 (41_codec.md R130), O32 (R134), O37 (R142), O25 (R123), O26 (R124),
O27 (R126), O28 (R127), O29 (R128), O30 (R132), O31 (R133), O33 (R135), O35 (R129), O36 (R136, R137). -/

namespace Sys2Proof.Proofs

open Sys2Proof.Machine Sys2Proof.Claims

/-- Settles O34: the bytes are received as the buffer holds them, and the decode has its three cases. -/
theorem receivedFrameDecodes : Obligations.ReceivedFrameDecodes := by
  intro bytes s rest hport
  obtain ⟨x, n, o, hrec, hrun⟩ := run_of_rxFrame_dec hport
  refine ⟨_, hrun, decodeBuffer_port _, decodeBuffer_rxn _, decodeBuffer_crc _, by simp [SameHistory],
    by simp [SameMetric], decodeBuffer_eill _, fun h8 => ?_, fun p c hp hbytes => ?_⟩
  · have hdata : n.setWidth 32 = BitVec.ofNat 32 (min bytes.length 9) := by
      rw [← hrec.1, BitVec.ofNat_toNat]
    rw [decodeBuffer_of_rxn_ne (mt hrec.rxn_eq_iff.1 h8)]
    simp [hdata]
  · subst hbytes
    obtain ⟨hn, hpayload, hlast⟩ := hrec.frame hp
    refine ⟨fun hc => ?_, fun hc => ?_⟩
    · rw [decodeBuffer_of_mismatch hn (by rwa [hpayload, hlast])]
      simp [hpayload, hlast]
    · rw [decodeBuffer_of_match hn (by rwa [hpayload, hlast]), ← hpayload]
      simp [rxPayload]

/-- Settles O32: the two checksum bytes are the answer, and a valid frame sums to zero, which no change of one byte
keeps. -/
theorem decMismatchSeesEverySingleByteChange : Obligations.DecMismatchSeesEverySingleByteChange := by
  refine ⟨fun s hn hc => ?_, fun s k v hn hc hv => ⟨_, rfl, decodeBuffer_outcome_of_set hn hc hv⟩, ?_⟩
  · obtain ⟨hreceived, -, hexpected, hrest⟩ :=
      extractLsb'_byte_above (Nat.le_refl 8) (crc8 (rxPayload s.rxb)) s.rxb[7]
    exact ⟨_, _, exec_dec_of_mismatch hn hc, rfl, hexpected, hreceived, hrest,
      fun f => exec_smpRd_of_not_valid f nofun⟩
  · exact ⟨{ State.reset with rxb := #v[0xF4#8, 0x01#8, 0x64#8, 0x00#8, 0x96#8, 0x00#8, 0x06#8, 0x04#8], rxn := 8#4 },
      _, rfl, rfl, exec_dec_of_match rfl (by decide +kernel), rfl⟩

/-- Settles O37: 99 is kept out of every table, and the class of a code outside it is 15. -/
theorem unknownMotorStateIsNoFailure : Obligations.UnknownMotorStateIsNoFailure := by
  have hunknown : mstTable 99#8 = none := rfl
  refine ⟨hunknown, classify_of_none hunknown, fun s code hcode hv hs => ?_, fun s hv hs => ?_,
    fun s hn hc _ => ⟨_, exec_dec_of_match hn hc, rfl, rfl⟩, classify_le_or_eq⟩
  · subst hs
    rw [exec_smpRd_of_valid .mstate hv, exec_smpRd_of_valid .motorClass hv, sampleField_of_unknown hcode]
    exact ⟨rfl, rfl⟩
  · have hword : sampleField s .motorClass = 0x0000630F#32 := by
      rw [sampleField_of_unknown (hs ▸ hunknown), hs]
      rfl
    rw [exec_smpRd_of_valid .motorClass hv, hword]
    rfl

/-- Settles O25: the answer is the frame's word, which is the encoding of the SetSpeed frame. -/
theorem encSpdBuildsTheSetSpeedFrame : Obligations.EncSpdBuildsTheSetSpeedFrame := by
  refine ⟨fun s rpm => ?_, decode_encSpd, takesHalf _, fun s => ?_⟩
  · have hbyte := word4_cmdframe_byte Config.kindSetSpeed rpm
    exact ⟨_, exec_encSpd_of_word rfl s, hbyte 0 (by decide), hbyte 1 (by decide), hbyte 2 (by decide),
      hbyte 3 (by decide), setspeed_of_cmdframe rpm⟩
  · exact ⟨exec_encSpd_of_word (by decide +kernel) s, exec_encSpd_of_word (by decide +kernel) s,
      exec_encSpd_of_word (by decide +kernel) s, exec_encSpd_of_word (by decide +kernel) s,
      exec_encSpd_of_word (by decide +kernel) s⟩

/-- Settles O26: the frame is a constant. -/
theorem encTrqBuildsTheConstantFrame : Obligations.EncTrqBuildsTheConstantFrame :=
  ⟨exec_encTrq_of_word (by decide +kernel), rfl, takesNoOperand_of_mem (by decide), by decide +kernel⟩

/-- Settles O27: the operation is its meaning, and its words with an operand are illegal. -/
theorem rxClrEmptiesTheBuffer : Obligations.RxClrEmptiesTheBuffer :=
  ⟨fun _ => rfl, rfl, takesNoOperand_of_mem (by decide)⟩

/-- Settles O28: the case of a received byte with room. -/
theorem rxPushStoresOneByte : Obligations.RxPushStoresOneByte := by
  refine ⟨fun s b hn => ?_, decode_rxPush, takesByte_of_mem (by decide), fun s hn => ?_⟩
  · exact ⟨_, fun k => by simp [Vector.getElem_setIfInBounds, eq_comm], exec_rxPush_of_room b hn, by bv_omega⟩
  · exact ⟨_, exec_rxPush_of_room _ (by simp [hn]), by simp [hn], by simp [hn], by simp [hn]⟩

/-- Settles O29: the case of a received byte when full, then the decode of nine bytes. -/
theorem rxPushWhenFullDropsTheByte : Obligations.RxPushWhenFullDropsTheByte :=
  fun _ b hn => ⟨_, exec_rxPush_of_full b hn, rfl, exec_dec_of_rxn_ne (show 9#4 ≠ 8#4 by decide)⟩

/-- Settles O30: the three cases of a decode. -/
theorem decTestsLengthThenChecksum : Obligations.DecTestsLengthThenChecksum := by
  refine ⟨fun s => exec_dec_of_rxn_ne, fun s expected hn hc hne => ?_, fun s => exec_dec_of_match, rfl,
    takesNoOperand_of_mem (by decide)⟩
  subst hc
  exact exec_dec_of_mismatch hn hne

/-- Settles O31: the incomplete case of a decode, and a decode of the empty buffer it leaves. -/
theorem decIncompleteHidesTheSample : Obligations.DecIncompleteHidesTheSample := by
  refine ⟨fun s hn => ?_, fun s t h => ?_⟩
  · have hne : s.rxn ≠ 8#4 := by bv_omega
    exact ⟨_, exec_dec_of_rxn_ne hne, rfl, by simp, rfl, rfl, rfl, rfl, rfl, ⟨rfl, rfl, rfl⟩, ⟨rfl, rfl, rfl, rfl⟩,
      fun f => exec_smpRd_of_not_valid f nofun⟩
  · cases h
    exact ⟨_, congrArg Host.Outcome.next (decodeBuffer_of_empty (decodeBuffer_rxn s)), rfl, rfl⟩

/-- Settles O33: the valid case of a decode, for every valid buffer and for the two of the rule. -/
theorem decValidLoadsTheSample : Obligations.DecValidLoadsTheSample := by
  refine ⟨fun s hn hc => ?_, fun s hn hb => ?_, fun s hn hb => ?_⟩
  · exact ⟨_, exec_dec_of_match hn hc, rfl, rfl, le16_toNat .., le16_toNat .., le16_toNat .., rfl, rfl⟩
  · refine ⟨_, exec_dec_of_match hn (by rw [hb]; decide +kernel), ?_⟩
    simp [hb, le16]
  · refine ⟨_, exec_dec_of_match hn (by rw [hb]; decide +kernel), ?_⟩
    simp [hb, le16]

/-- Settles O35: the cases of the function. -/
theorem decodeFunctionResults : Obligations.DecodeFunctionResults :=
  ⟨fun _ => decodeFrame_of_length_ne, fun _ _ => decodeFrame_of_ne,
    fun _ _ _ _ _ _ _ _ hc => if_neg (not_not_intro hc)⟩

/-- Settles O36: the two cases of the operation, and the bits of selector 4. -/
theorem smpRdReadsOnlyAValidatedSample : Obligations.SmpRdReadsOnlyAValidatedSample := by
  refine ⟨fun s f => exec_smpRd_of_not_valid f, fun s hv => ?_, rfl, rfl, rfl, rfl, rfl,
    takesSelector_of_mem (by decide)⟩
  obtain ⟨hclass, hzero, hcode, hrest⟩ := extractLsb'_byte_above (by omega) s.mstate (classify s.mstate)
  exact ⟨exec_smpRd_of_valid .duty hv, exec_smpRd_of_valid .ref hv, exec_smpRd_of_valid .avg hv,
    exec_smpRd_of_valid .mstate hv, _, exec_smpRd_of_valid .motorClass hv, hclass, hzero, hcode, hrest⟩

end Sys2Proof.Proofs

/-! SUPPORT. The arithmetic of the metric (42_history.md R153, R155 to R157): the greatest deviation against the length
and the greatest entry, the rounded quotient, and the source's example. -/

namespace Sys2Proof.Machine

/-- The sum of a history against one of its entries and a bound of them all. -/
theorem histSum_le_of_mem {h : List Half} {x : Half} {b : Nat} (hx : x ∈ h) (hb : ∀ y ∈ h, y.toNat ≤ b) :
    histSum h ≤ x.toNat + (h.length - 1) * b := by
  have hperm : histSum h = x.toNat + histSum (h.erase x) :=
    ((List.perm_cons_erase hx).map _).sum_eq.trans (histSum_cons x _)
  have hrest : histSum (h.erase x) ≤ ((h.erase x).map BitVec.toNat).length • b :=
    List.sum_le_card_nsmul _ b fun _ hy => by
      obtain ⟨y, hmem, rfl⟩ := List.mem_map.1 hy
      exact hb y (List.mem_of_mem_erase hmem)
  rw [List.length_map, List.length_erase_of_mem hx, smul_eq_mul] at hrest
  omega

/-- A bound of the entries bounds the greatest deviation, one entry less than the length times (R153). -/
theorem devn_le_pred_length_mul {h : List Half} {b : Nat} (hb : ∀ y ∈ h, y.toNat ≤ b) :
    devn h ≤ (h.length - 1) * b := by
  refine devn_le_of_forall fun x hx => ?_
  obtain ⟨n, hn⟩ : ∃ n, h.length = n + 1 := Nat.exists_eq_add_one.2 (List.length_pos_of_mem hx)
  have hsum := histSum_le_of_mem hx hb
  have hle := toNat_le_histSum hx
  have hmul : n * x.toNat ≤ n * b := Nat.mul_le_mul_left n (hb x hx)
  rw [hn, Nat.add_sub_cancel] at hsum ⊢
  rw [entryDev, ← Nat.cast_mul, Nat.succ_mul]
  omega

/-- Rounding keeps its quotient within half of the exact one, an exact half upward (R155). -/
theorem rnd_bounds (p : Nat) {q : Nat} (hq : 0 < q) :
    2 * q * rnd p q ≤ 2 * p + q ∧ 2 * p + q < 2 * q * (rnd p q + 1) :=
  ⟨Nat.mul_div_le _ _, Nat.lt_mul_div_succ _ (by omega)⟩

/-- An exact half is rounded upward (R155). -/
theorem rnd_half {q : Nat} (k : Nat) (hq : 0 < q) : rnd (2 * q * k + q) (2 * q) = k + 1 := by
  rw [rnd, show 2 * (2 * q * k + q) + 2 * q = 2 * (2 * q) * (k + 1) by ring]
  exact Nat.mul_div_cancel_left _ (by omega)

/-- The percentage of the mean over a history within its capacity (R156). -/
theorem pctm_le_of_length {h : List Half} (hlen : h.length ≤ 50) : pctm h ≤ 490000 := by
  unfold pctm
  split
  · have hdevn : devn h ≤ (h.length - 1) * histSum h := devn_le_pred_length_mul fun _ => toNat_le_histSum
    refine rnd_le ?_
    calc 10000 * devn h ≤ 10000 * (49 * histSum h) :=
          Nat.mul_le_mul_left 10000 (hdevn.trans (Nat.mul_le_mul_right _ (by omega)))
      _ = 490000 * histSum h := (Nat.mul_assoc 10000 49 _).symm
  · exact Nat.zero_le _

/-- The percentage of the reference over a history within its capacity (R157). -/
theorem pctr_le_of_length {h : List Half} (r : Half) (hlen : h.length ≤ 50) : pctr h r ≤ 642243000 := by
  unfold pctr
  split
  next hr =>
    have hdevn : devn h ≤ (h.length - 1) * 65535 := devn_le_pred_length_mul fun y _ => Nat.le_of_lt_succ y.isLt
    refine rnd_le ?_
    calc 10000 * devn h ≤ 642243000 * h.length := by omega
      _ ≤ 642243000 * (h.length * r.toNat) := Nat.mul_le_mul_left _ (Nat.le_mul_of_pos_right _ hr)
  · exact Nat.zero_le _

/-- The history of the source's example: nine entries 100 and a 150. -/
def exampleHistory : List Half := List.replicate 9 100#16 ++ [150#16]

/-- The metric of the source's example, against the reference 100. -/
theorem metric_of_exampleHistory : histSum exampleHistory = 1050 ∧ devn exampleHistory = 450 ∧
    pctm exampleHistory = 4286 ∧ pctr exampleHistory 100#16 = 4500 := by decide +kernel

end Sys2Proof.Machine

/-! The obligations of the metric's arithmetic: O51 (42_history.md R155), O53 (R156), O54 (R157). -/

namespace Sys2Proof.Proofs

open Sys2Proof.Machine

/-- Settles O51: by the quotient and its remainder, and by the bound of the greatest deviation. -/
theorem rndRoundsToNearestHalfUp : Obligations.RndRoundsToNearestHalfUp := by
  refine ⟨fun _ _ _ => rfl, fun p _ => rnd_bounds p, fun _ k => rnd_half k, fun h q hlen hq => ?_⟩
  have hdevn := devn_le_length_mul h
  omega

/-- Settles O53: the range by the bound of the greatest deviation against the sum. -/
theorem pctmFormulaAndRange : Obligations.PctmFormulaAndRange := by
  obtain ⟨hsum, hdevn, hpctm, -⟩ := metric_of_exampleHistory
  exact ⟨fun _ hpos => if_pos hpos, fun _ hzero => if_neg (Nat.not_lt.2 hzero.le), fun _ => pctm_le_of_length,
    hsum, hdevn, hpctm⟩

/-- Settles O54: the range by the bound of the greatest deviation against the width of an entry; its end and the
example are computed. -/
theorem pctrFormulaAndRange : Obligations.PctrFormulaAndRange := by
  obtain ⟨-, -, -, hpctr⟩ := metric_of_exampleHistory
  exact ⟨fun _ _ hr => if_pos hr, fun _ => rfl, fun _ => pctr_le_of_length, by decide +kernel, hpctr⟩

end Sys2Proof.Proofs

/-! SUPPORT. What the history's operations do, case by case (42_history.md R159 to R162), and the command words of
`HS.MET` and `HS.RD`. -/

namespace Sys2Proof.Machine

/-- A push appends its value and evicts the oldest entry at capacity (10_state.md R34). -/
theorem histPush_h (v : Half) (s : State) :
    (histPush v s).h = (if s.hcnt.toNat < 50 then s.h else s.h.drop 1) ++ [v] := by
  rcases histPush_cases v s with ⟨hn, hh, -⟩ | ⟨hn, hh, -⟩
  · rw [hh, if_pos hn]
  · rw [hh, if_neg (Nat.not_lt.2 hn), List.drop_one]

/-- A push counts up to the capacity (R35). -/
theorem histPush_hcnt {s : State} (hinv : s.HistoryInv) (v : Half) :
    (histPush v s).hcnt.toNat = min (s.hcnt.toNat + 1) 50 := by
  have hle := hinv.hcnt_le
  rcases histPush_cases v s with ⟨hn, -, hcnt, -⟩ | ⟨hn, -, hcnt, -⟩ <;> rw [hcnt]
  · bv_omega
  · simp; omega

/-- A push changes the sum by its value and the entry it evicts (R36). -/
theorem histPush_sum {s : State} (hinv : s.HistoryInv) (v : Half) :
    ((histPush v s).sum.toNat : Int) =
      s.sum.toNat + v.toNat - (if s.hcnt.toNat < 50 then 0 else (s.h.headD 0#16).toNat) := by
  rw [(histPush_historyInv hinv v).sum_eq, hinv.sum_eq, histPush_h]
  split
  · simp
  · rcases s.h with _ | ⟨x, l⟩
    · simp
    · simp
      omega

/-- `HS.MET` over ten entries or more (42_history.md R162). -/
theorem exec_hsMet_of_enough {s : State} (r : Half) (hn : 10 ≤ s.hcnt.toNat) :
    exec (.hsMet r) s = .next { s with
      devn := BitVec.ofNat 22 (devn s.h), pctm := BitVec.ofNat 32 (pctm s.h), pctr := BitVec.ofNat 32 (pctr s.h r),
      mvalid := true, out := s.out ++ [⟨.ok, s.hcnt.setWidth 32⟩] } :=
  congrArg (fun u => Host.Outcome.next (answerMetric u)) (metricUpdate_of_enough r hn)

/-- `HS.MET` below ten entries (R162). -/
theorem exec_hsMet_of_few {s : State} (r : Half) (hn : s.hcnt.toNat < 10) :
    exec (.hsMet r) s = .next { s with mvalid := false, out := s.out ++ [⟨.noMetric, s.hcnt.setWidth 32⟩] } :=
  congrArg (fun u => Host.Outcome.next (answerMetric u)) (metricUpdate_of_few r hn)

/-- `HS.MET` again, with any reference, changes `PCTR` alone (R162). -/
theorem hsMet_again {s t u : State} {r r' : Half} (ht : exec (.hsMet r) s = .next t)
    (hu : exec (.hsMet r') t = .next u) : u = { t with pctr := u.pctr, out := u.out } := by
  rcases Nat.lt_or_ge s.hcnt.toNat 10 with hn | hn
  · cases (exec_hsMet_of_few r hn).symm.trans ht
    cases (exec_hsMet_of_few r' (by exact hn)).symm.trans hu
    rfl
  · cases (exec_hsMet_of_enough r hn).symm.trans ht
    cases (exec_hsMet_of_enough r' (by exact hn)).symm.trans hu
    rfl

/-- The registers after an update over the source's example, against the reference 100. -/
theorem metricUpdate_of_example {s : State} (hinv : s.HistoryInv) (hh : s.h = exampleHistory) :
    s.hcnt = 10#6 ∧ s.sum = 1050#22 ∧ metricUpdate 100#16 s =
      { s with devn := 450#22, pctm := 4286#32, pctr := 4500#32, mvalid := true } := by
  obtain ⟨hsum, hdevn, hpctm, hpctr⟩ := metric_of_exampleHistory
  have hcnt : s.hcnt = 10#6 := BitVec.eq_of_toNat_eq (by rw [← hinv.h_length, hh]; rfl)
  refine ⟨hcnt, BitVec.eq_of_toNat_eq (by rw [hinv.sum_eq, hh, hsum]; rfl), ?_⟩
  rw [metricUpdate_of_enough _ (by rw [hcnt]; decide), hh, hdevn, hpctm, hpctr]

/-- `HS.MET 100` over the source's example (R162). -/
theorem exec_hsMet_of_example {s : State} (hinv : s.HistoryInv) (hh : s.h = exampleHistory) :
    exec (.hsMet 100#16) s = .next { s with
      devn := 450#22, pctm := 4286#32, pctr := 4500#32, mvalid := true, out := s.out ++ [⟨.ok, 10#32⟩] } := by
  obtain ⟨hcnt, -, hmetric⟩ := metricUpdate_of_example hinv hh
  have hdata : s.hcnt.setWidth 32 = 10#32 := by rw [hcnt]; rfl
  rw [← hdata]
  exact congrArg (fun u => Host.Outcome.next (answerMetric u)) hmetric

/-- A push of 150 onto nine entries 100 leaves the history of the source's example. -/
theorem histPush_h_of_nine {s : State} (hinv : s.HistoryInv) (hh : s.h = List.replicate 9 100#16) :
    (histPush 150#16 s).h = exampleHistory := by
  have hcnt : s.hcnt.toNat = 9 := by rw [← hinv.h_length, hh]; rfl
  rw [histPush_h, if_pos (by omega), hh, exampleHistory]

/-- The history with a new sample's speed appended keeps its invariant (R160). -/
theorem clearSnew_histPush_historyInv {s : State} (hinv : s.HistoryInv) (v : Half) :
    (clearSnew (histPush v s)).HistoryInv :=
  (histPush_historyInv hinv v).of_same ⟨rfl, rfl, rfl⟩

/-- The command word of `HS.MET r`. -/
theorem decode_hsMet (r : Half) : decode (.cmd32 (0x42000000#32 ||| r.setWidth 32)) = .ok (.hsMet r) :=
  decode_commandWord (row := (0x42#8, fun arg => .ok (formHalf arg .hsMet))) (by simp [opTable]) r

/-- The command word of `HS.RD i`. -/
theorem decode_hsRd (i : Half) : decode (.cmd32 (0x43000000#32 ||| i.setWidth 32)) = .ok (.hsRd i) :=
  decode_commandWord (row := (0x43#8, fun arg => .ok (formHalf arg .hsRd))) (by simp [opTable]) i

end Sys2Proof.Machine

/-! The obligations of the operations that write the history and the metric: O44 (42_history.md R161), O45 (R160),
O46 (R162). -/

namespace Sys2Proof.Proofs

open Sys2Proof.Machine Sys2Proof.Claims

/-- Settles O44: by what a push does to `H`, `HCNT` and `SUM`. -/
theorem hsPushAppendsAndInvalidates : Obligations.HsPushAppendsAndInvalidates := by
  refine ⟨fun s v hinv => ⟨_, rfl, histPush_h v s, histPush_hcnt hinv.historyInv v,
    histPush_sum hinv.historyInv v, ?_⟩, decode_hsPush, takesHalf _, ⟨_, rfl, rfl, rfl, rfl, rfl⟩⟩
  simp [SameBuffer, SameSample]

/-- Settles O45: a new sample is appended, then the metric is that of the appended history; the sample is then no
longer new. -/
theorem smpAccAppendsOnceAndComputes : Obligations.SmpAccAppendsOnceAndComputes := by
  refine ⟨fun s hs => if_neg hs, fun s hinv hv hn => ?_, rfl, takesNoOperand_of_mem (by decide),
    fun s hinv hv hn hh havg href => ?_⟩
  · have happ := clearSnew_histPush_historyInv hinv.historyInv s.avg
    refine ⟨_, exec_smpAcc_of_new hv hn, ?_, ?_, ?_, by simp, fun hge => ?_, fun hlt => ?_, ?_⟩
    · simpa using histPush_h s.avg s
    · simpa using histPush_hcnt hinv.historyInv s.avg
    · simpa using happ.sum_eq
    · have hge : 10 ≤ (clearSnew (histPush s.avg s)).hcnt.toNat := by simpa using hge
      obtain ⟨hmvalid, hdevn, hpctm, hpctr⟩ := metricUpdate_metric happ s.ref hge
      simp [hmvalid, hdevn, hpctm, hpctr]
    · have hlt : (clearSnew (histPush s.avg s)).hcnt.toNat < 10 := by simpa using hlt
      simp [metricUpdate_of_few _ hlt]
    · simp [SameBuffer, exec_smpAcc_of_not_new, raiseStatus, respond]
  · obtain ⟨hcnt, hsum, hmetric⟩ := metricUpdate_of_example (clearSnew_histPush_historyInv hinv.historyInv 150#16)
      (histPush_h_of_nine hinv.historyInv hh)
    refine ⟨_, exec_smpAcc_of_new hv hn, ?_⟩
    rw [clearSnew_hcnt] at hcnt
    rw [clearSnew_sum] at hsum
    simp [havg, href, hmetric, hcnt, hsum]

/-- Settles O46: by the two cases of the operation. -/
theorem hsMetComputesAgainstTheReference : Obligations.HsMetComputesAgainstTheReference := by
  refine ⟨fun s r hinv hn => ?_, fun s r hn => exec_hsMet_of_few r hn, fun s t u r r' => hsMet_again, decode_hsMet,
    takesHalf _, fun s hinv hh => ?_⟩
  · obtain ⟨-, hdevn, hpctm, hpctr⟩ := metricUpdate_metric hinv.historyInv r hn
    rw [metricUpdate_of_enough r hn] at hdevn hpctm hpctr
    exact ⟨_, _, _, exec_hsMet_of_enough r hn, hdevn, hpctm, hpctr, fun hr => by rw [hr]; rfl⟩
  · exact ⟨_, exec_hsMet_of_example hinv.historyInv hh, rfl, rfl, rfl, rfl, rfl⟩

end Sys2Proof.Proofs

/-! SUPPORT. The mean and the greatest deviation as rational numbers (42_history.md R167): `SUM / HCNT` and
`DEVN / HCNT`. -/

namespace Sys2Proof.Machine

/-- No entry deviates by more than the greatest deviation (R153). -/
theorem entryDev_le_devn {h : List Half} {x : Half} (hx : x ∈ h) : entryDev h.length (histSum h) x ≤ devn h :=
  List.le_max_of_le' 0 (List.mem_map_of_mem hx) le_rfl

/-- Some entry deviates by the greatest deviation (R153). -/
theorem exists_entryDev_eq_devn {h : List Half} (hne : h ≠ []) :
    ∃ x ∈ h, entryDev h.length (histSum h) x = devn h :=
  List.mem_map.1 (List.maximum_mem (List.foldr_max_of_ne_nil (by simpa using hne)).symm)

/-- The sum of the entries as rational numbers. -/
theorem sum_map_cast_toNat (h : List Half) : (h.map (fun x => (x.toNat : ℚ))).sum = histSum h := by
  rw [histSum, Nat.cast_list_sum, List.map_map]
  rfl

/-- An entry's distance from the mean is its deviation over the length. -/
theorem abs_sub_mean {n : Nat} (hn : 0 < n) (total : Nat) (x : Half) :
    |(x.toNat : ℚ) - total / n| = entryDev n total x / n := by
  have hpos : (0 : ℚ) < n := Nat.cast_pos.2 hn
  have hdist : (x.toNat : ℚ) - total / n = (n * x.toNat - total) / n := by field_simp
  rw [hdist, abs_div, abs_of_pos hpos, entryDev, Nat.cast_natAbs]
  push_cast
  rfl

end Sys2Proof.Machine

/-! SUPPORT. Runs of command words that only read the history and the metric (42_history.md R166, R167). -/

namespace Sys2Proof.Machine

open Sys2Proof.Claims

/-- The entry a read finds (R166). -/
theorem exec_hsRd_of_entry {s : State} {i v : Half} (he : histEntry s i.toNat = some v) :
    exec (.hsRd i) s = .next (respond .ok (v.setWidth 32) s) := by
  simp [exec, execHsRd, he]

/-- A read where there is no entry (R166). -/
theorem exec_hsRd_of_no_entry {s : State} {i : Half} (he : histEntry s i.toNat = none) :
    exec (.hsRd i) s = .next (raiseStatus .range 0#32 s) := by
  simp [exec, execHsRd, he]

/-- In a state with the registers of `s` the command word is answered by the response and changes no register. -/
def Answers (s : State) (w : Word) (r : Response) : Prop :=
  ∃ i, decode (.cmd32 w) = .ok i ∧ ∀ (port : List Input) (out : List Response),
    exec i { s with port := port, out := out } = .next { s with port := port, out := out ++ [r] }

/-- Command words that only answer run to their responses. -/
theorem run_of_answers {s : State} {ws : List Word} {rs : List Response} (h : List.Forall₂ (Answers s) ws rs)
    (hp : s.port = ws.map command) : RunsTo ws.length s { s with port := [], out := s.out ++ rs } := by
  suffices hrun : ∀ out, RunsTo ws.length { s with port := ws.map command, out := out }
      { s with port := [], out := out ++ rs } by simpa only [← hp] using hrun s.out
  clear hp
  induction h with
  | nil => simp [RunsTo]
  | @cons w r ws rs hw _ ih =>
    intro out
    obtain ⟨i, hd, hexec⟩ := hw
    have hstep := (step_of_decode (s := { s with port := command w :: ws.map command, out := out }) rfl hd).trans
      (hexec _ out)
    have hrun := (runSteps_succ _ hstep).trans (ih (out ++ [r]))
    rwa [List.append_assoc, List.singleton_append] at hrun

/-- `HS.RD i` answers the entry at `i`. -/
theorem answers_hsRd_of_entry {s : State} {i v : Half} (he : histEntry s i.toNat = some v) :
    Answers s (0x43000000#32 ||| i.setWidth 32) ⟨.ok, v.setWidth 32⟩ :=
  ⟨_, decode_hsRd i, fun _ _ => exec_hsRd_of_entry he⟩

/-- `HS.RD i` answers RANGE where there is no entry. -/
theorem answers_hsRd_of_no_entry {s : State} {i : Half} (he : histEntry s i.toNat = none) :
    Answers s (0x43000000#32 ||| i.setWidth 32) ⟨.range, 0#32⟩ :=
  ⟨_, decode_hsRd i, fun _ _ => exec_hsRd_of_no_entry he⟩

/-- `MET.RD f` answers a held metric. -/
theorem answers_metRd {s : State} {w : Word} {f : MetricSel} (hd : decode (.cmd32 w) = .ok (.metRd f))
    (hv : s.mvalid = true) : Answers s w ⟨.ok, metricField s f⟩ := by
  refine ⟨_, hd, fun port out => ?_⟩
  have hsame : metricField { s with port := port, out := out } f = metricField s f := by cases f <;> rfl
  rw [← hsame]
  exact exec_metRd_of_held (.inl hv)

/-- The five words of `MET.RD` answer the held metric, `SUM` and `HCNT`. -/
theorem answers_metRd_words {s : State} (hv : s.mvalid = true) :
    List.Forall₂ (Answers s) [0x44000000#32, 0x44000001#32, 0x44000002#32, 0x44000003#32, 0x44000004#32]
      [⟨.ok, s.pctm⟩, ⟨.ok, s.pctr⟩, ⟨.ok, s.devn.setWidth 32⟩, ⟨.ok, s.sum.setWidth 32⟩, ⟨.ok, s.hcnt.setWidth 32⟩] :=
  .cons (answers_metRd (f := .pctm) rfl hv) <| .cons (answers_metRd (f := .pctr) rfl hv) <|
    .cons (answers_metRd (f := .devn) rfl hv) <| .cons (answers_metRd (f := .sum) rfl hv) <|
      .cons (answers_metRd (f := .hcnt) rfl hv) .nil

/-- Every push gives one response. -/
theorem out_length_of_hsPushes {vs : List Half} {s t : State} {rest : List Input}
    (hp : s.port = vs.map (fun v => command (0x41000000#32 ||| v.setWidth 32)) ++ rest)
    (hrun : RunsTo vs.length s t) : t.out.length = s.out.length + vs.length := by
  induction vs generalizing s with
  | nil => cases hrun; rfl
  | cons v vs ih =>
    have hstep := step_of_decode hp (decode_hsPush v)
    have hlen := ih (by simp) ((runSteps_succ _ hstep).symm.trans hrun)
    rw [hlen]
    simp
    omega

/-- Values pushed from reset leave the last fifty of them, and one response each. -/
theorem run_of_hsPushes_from_reset (vs : List Half) (rest : List Input) :
    ∃ t, RunsTo vs.length { State.reset with
        port := vs.map (fun v => command (0x41000000#32 ||| v.setWidth 32)) ++ rest } t ∧
      t.port = rest ∧ t.HistoryInv ∧ t.h = vs.rtake 50 ∧ t.out.length = vs.length := by
  obtain ⟨t, hrun, hport, hinv, hh⟩ := run_of_hsPushes vs { State.reset with
    port := vs.map (fun v => command (0x41000000#32 ||| v.setWidth 32)) ++ rest } rest ⟨Nat.zero_le 50, rfl, rfl⟩ rfl
  exact ⟨t, hrun, hport, hinv, hh, by simpa [State.reset] using out_length_of_hsPushes rfl hrun⟩

end Sys2Proof.Machine

/-! The obligations of the operations that read the history and the metric: O47 (42_history.md R166), O48 (R167). -/

namespace Sys2Proof.Proofs

open Sys2Proof.Machine Sys2Proof.Claims

/-- Settles O47: an entry exists below `HCNT` alone; after 51 pushes the history is the last fifty values, and the three
reads answer its first entry, its last, and none. -/
theorem hsRdReadsOldestFirst : Obligations.HsRdReadsOldestFirst := by
  refine ⟨fun s i v hlt hv => ?_, fun s i hinv hlt => ?_, fun s i hge => ?_, decode_hsRd, takesHalf _, ?_⟩
  · exact exec_hsRd_of_entry ((if_pos hlt).trans hv)
  · exact ⟨_, List.getElem?_eq_getElem (hinv.h_length ▸ hlt)⟩
  · exact exec_hsRd_of_no_entry (if_neg (Nat.not_lt.2 hge))
  · obtain ⟨t, hrun, hport, hinv, hh, hout⟩ := run_of_hsPushes_from_reset ((List.range' 1 51).map (BitVec.ofNat 16))
      ([0x43000000#32, 0x43000031#32, 0x43000032#32].map command)
    have hcnt : t.hcnt.toNat = 50 := by rw [← hinv.h_length, hh]; rfl
    have hentry : ∀ i < 50, histEntry t i = (((List.range' 1 51).map (BitVec.ofNat 16)).rtake 50)[i]? := by
      intro i hi
      rw [histEntry, if_pos (hcnt ▸ hi), hh]
    have hfirst : Answers t 0x43000000#32 ⟨.ok, 2#32⟩ :=
      answers_hsRd_of_entry (i := 0#16) (v := 2#16) (hentry 0 (by omega))
    have hlast : Answers t 0x43000031#32 ⟨.ok, 51#32⟩ :=
      answers_hsRd_of_entry (i := 49#16) (v := 51#16) (hentry 49 (by omega))
    have hnone : Answers t 0x43000032#32 ⟨.range, 0#32⟩ :=
      answers_hsRd_of_no_entry (i := 50#16) (if_neg (Nat.not_lt.2 hcnt.le))
    have hreads := run_of_answers (.cons hfirst (.cons hlast (.cons hnone .nil))) hport
    exact ⟨_, (runSteps_add 3 hrun).trans hreads, List.drop_left' hout⟩

/-- Settles O48: by whether a metric is held; under the invariant the distances from the mean are the deviations over
the length; the run is ten pushes, `HS.MET` and five reads. -/
theorem metRdReadsAMetricOnlyWhileValid : Obligations.MetRdReadsAMetricOnlyWhileValid := by
  refine ⟨fun s hv => ?_, fun s f hv hf => ?_, fun s => ⟨rfl, rfl⟩, fun s hinv hpos => ?_, rfl, rfl, rfl, rfl, rfl,
    takesSelector_of_mem (by decide), ?_⟩
  · exact ⟨exec_metRd_of_held (.inl hv), exec_metRd_of_held (.inl hv), exec_metRd_of_held (.inl hv)⟩
  · exact exec_metRd_of_not_held (by rcases hf with rfl | rfl | rfl <;> simp [hv])
  · rw [← hinv.h_length] at hpos
    rw [hinv.sum_eq, ← hinv.h_length]
    refine ⟨by rw [sum_map_cast_toNat], fun hv => ?_⟩
    simp only [abs_sub_mean hpos, hinv.mvalid_devn hv]
    refine ⟨fun x hx => ?_, ?_⟩
    · gcongr
      exact entryDev_le_devn hx
    · obtain ⟨x, hx, hdev⟩ := exists_entryDev_eq_devn (List.ne_nil_of_length_pos hpos)
      exact ⟨x, hx, by rw [hdev]⟩
  · obtain ⟨t, hrun, hport, hinv, hh, hout⟩ := run_of_hsPushes_from_reset (List.replicate 9 100#16 ++ [150#16])
      (command 0x42000064#32 ::
        [0x44000000#32, 0x44000001#32, 0x44000002#32, 0x44000003#32, 0x44000004#32].map command)
    obtain ⟨hcnt, hsum, -⟩ := metricUpdate_of_example hinv hh
    have hstep := (step_of_decode hport (decode_hsMet 100#16)).trans
      (exec_hsMet_of_example (hinv.of_same ⟨rfl, rfl, rfl⟩) hh)
    refine ⟨_, ((runSteps_add 6 hrun).trans (runSteps_succ 5 hstep)).trans
      (run_of_answers (answers_metRd_words rfl) rfl), ?_⟩
    rw [List.drop_left' (by simp [hout])]
    simp [hsum, hcnt]

end Sys2Proof.Proofs

/-! SUPPORT. The status word bit by bit (10_state.md R43, 43_system.md R182), that a push never shortens the history
(10_state.md R34), and the illegal words of a code that takes no operand (30_encoding.md R88). -/

namespace Sys2Proof.Machine

/-- The bits of the status word: the fields side by side from bit 0, with `EILL` at 16 and nothing above it (R43). -/
theorem getLsbD_statusWord (s : State) {i : Nat} (hi : i < 32) :
    (statusWord s).getLsbD i =
      if i < 2 then (outcomeCode s.outcome).getLsbD i
      else if i = 2 then s.snew
      else if i = 3 then s.mvalid
      else if i < 8 then s.rxn.getLsbD (i - 4)
      else if i < 16 then s.hcnt.getLsbD (i - 8)
      else if i = 16 then s.eill else false := by
  interval_cases i <;> simp [statusWord, flagWord]

/-- The fields of the status word of two bits and more, and its gaps (R182). -/
theorem extractLsb'_statusWord (s : State) :
    (statusWord s).extractLsb' 0 2 = outcomeCode s.outcome ∧ (statusWord s).extractLsb' 4 4 = s.rxn ∧
      (statusWord s).extractLsb' 8 6 = s.hcnt ∧ (statusWord s).extractLsb' 14 2 = 0#2 ∧
      (statusWord s).extractLsb' 17 15 = 0#15 := by
  refine ⟨?_, ?_, ?_, ?_, ?_⟩ <;> apply BitVec.eq_of_getLsbD_eq <;> intro i hlt <;>
    rw [BitVec.getLsbD_extractLsb', getLsbD_statusWord s (by omega)]
  all_goals interval_cases i <;> simp

/-- A push never shortens the history (R34). -/
theorem length_le_histPush (v : Half) (s : State) : s.h.length ≤ (histPush v s).h.length := by
  rw [histPush_h]
  split
  · simp
  · simp; omega

/-- A word that is not the one of its code without an operand has an operand or reserved bits (R88 (b), (c)). -/
theorem operand_or_reserved_of_ne {w : Word} {op : Byte} (hop : w.extractLsb' 24 8 = op)
    (hw : w ≠ commandWord op 0#16) :
    w.extractLsb' 0 16 ≠ 0#16 ∨ w.extractLsb' 16 8 ≠ 0#8 := by
  by_contra! h
  obtain ⟨harg, hrsv⟩ := h
  refine hw (word_eq_iff.2 ⟨?_, ?_, ?_⟩)
  · rw [opField_commandWord]; exact hop
  · rw [rsvField_commandWord]; exact hrsv
  · rw [argField_commandWord]; exact harg

end Sys2Proof.Machine

/-! The obligations of the system operations: O14 (43_system.md R181), O15 (R182). -/

namespace Sys2Proof.Proofs

open Sys2Proof.Machine Sys2Proof.Claims

/-- Settles O14: the operation is its meaning; by the effects of the other instructions `EILL` stays, and the history
stays or is pushed to. -/
theorem sysRstRestoresTheResetState : Obligations.SysRstRestoresTheResetState := by
  refine ⟨fun _ => rfl, rfl, takesNoOperand_of_mem (by decide), fun i s t _ h hi => ⟨?_, fun hs => ?_⟩,
    fun s rest hp => ?_⟩
  · rcases (effect_of_exec h).h_cases with hkeep | hrst | ⟨v, -, hpush⟩
    · rw [hkeep]
    · exact absurd hrst hi
    · exact hpush ▸ length_le_histPush v s
  · rw [(effect_of_exec h).eill_eq hi, hs]
  · have hrst := step_of_decode (i := .sysRst) hp rfl
    have hstat : step (respond .ok 0#32 (resetBlock { s with port := command 0x02000000#32 :: rest })) = _ :=
      step_of_decode (i := .sysStat) rfl rfl
    refine ((runSteps_succ 1 hrst).trans (runSteps_succ 0 hstat)).trans ?_
    simp [respond, resetBlock, statusWord, flagWord, outcomeCode, State.reset]

/-- Settles O15: bit by bit of the status word; an illegal word sets the `EILL` that the next word shows. -/
theorem sysStatShowsEveryField : Obligations.SysStatShowsEveryField := by
  refine ⟨fun s => ?_, rfl, takesNoOperand_of_mem (by decide), fun s w rest hop hw hp => ?_,
    fun s ho hs hm hr hc he => ?_⟩
  · obtain ⟨houtcome, hrxn, hhcnt, hgap, htop⟩ := extractLsb'_statusWord s
    exact ⟨_, rfl, houtcome, getLsbD_statusWord s (by omega), getLsbD_statusWord s (by omega), hrxn, hhcnt, hgap,
      getLsbD_statusWord s (by omega), htop⟩
  · have hill := takesNoOperand_of_mem (by decide) w hop (operand_or_reserved_of_ne hop hw) s _ hp
    have hrun := (runSteps_succ 1 hill).trans (runSteps_succ 0 (step_of_decode (i := .sysStat) rfl rfl))
    exact ⟨_, _, hrun, List.append_assoc .., getLsbD_statusWord (i := 16) _ (by omega)⟩
  · simp [exec, execSysStat, respond, statusWord, outcomeCode, flagWord, ho, hs, hm, hr, hc, he]

end Sys2Proof.Proofs

/-! SUPPORT. What every command word does to the port, the responses and the link (60_exceptions.md R190): an operation
completes with one response, and so does an illegal word. -/

namespace Sys2Proof.Machine

/-- A received byte adds one response (41_codec.md R127, R128). -/
theorem exists_pushByte_out (b : Byte) (s : State) : ∃ r, (pushByte b s).out = s.out ++ [r] := by
  rcases pushByte_cases b s with ⟨-, hpush⟩ | ⟨-, hpush⟩ <;> exact ⟨_, by rw [hpush, respond_out]⟩

/-- A decode adds one response (R132). -/
theorem exists_decodeBuffer_out (s : State) : ∃ r, (decodeBuffer s).out = s.out ++ [r] := by
  rcases decodeBuffer_cases s with ⟨-, hdec⟩ | ⟨-, -, hdec⟩ | ⟨-, -, hdec⟩ <;>
    exact ⟨_, by rw [hdec, respond_out]; rfl⟩

/-- An operation adds one response, takes nothing more from the port and puts nothing on the link; the three wire
frames, which are no operations, are the exceptions (30_encoding.md R70, R79). -/
theorem Effect.one_response {i : Instr} {s t : State} (h : Effect s i t) (hop : Claims.IsOperation i) :
    ∃ r, t.port = s.port ∧ t.out = s.out ++ [r] ∧ t.sent = s.sent := by
  cases h with
  | rxPush b =>
    obtain ⟨r, hr⟩ := exists_pushByte_out b s
    exact ⟨r, pushByte_port .., hr, pushByte_sent ..⟩
  | dec =>
    obtain ⟨r, hr⟩ := exists_decodeBuffer_out s
    exact ⟨r, decodeBuffer_port .., hr, decodeBuffer_sent ..⟩
  | setspeed | telemreq | telemetry =>
    obtain ⟨w, hw⟩ := hop
    cases hw
  | _ => simp

/-- A command word that decodes is an operation. -/
theorem isOperation_of_decodeCommand {w : Word} {i : Instr} (h : decodeCommand w = .ok i) : Claims.IsOperation i :=
  ⟨w, encode_of_decodeCommand h⟩

end Sys2Proof.Machine

/-! The obligation of the exceptions: O9 (60_exceptions.md R190). -/

namespace Sys2Proof.Proofs

open Sys2Proof.Machine Sys2Proof.Claims

/-- Settles O9: a word that decodes runs its operation, which completes with one response; any other is answered
ILLEGAL. -/
theorem everyCommandWordHasOneResponse : Obligations.EveryCommandWordHasOneResponse := by
  intro s w rest hp
  rcases hd : decodeCommand w with q | i
  · exact ⟨_, ⟨.illegal, 0#32⟩, step_of_illegalWord ((decodeCommand_rejects_iff w).1 ⟨q, hd⟩) hp, rfl, rfl, rfl⟩
  · obtain ⟨t, ht⟩ := exec_total i { s with port := rest }
    obtain ⟨r, hport, hout, hsent⟩ := (effect_of_exec ht).one_response (isOperation_of_decodeCommand hd)
    exact ⟨t, r, (step_of_decode hp hd).trans ht, hport, hout, hsent⟩

end Sys2Proof.Proofs

/-! SUPPORT. The status word depends on the registers alone, and what it is at their reset values (10_state.md R43,
70_reset_and_hazards.md R221). -/

namespace Sys2Proof.Machine

/-- The status word shows registers only: not the port, the responses or the link (R43). -/
theorem statusWord_eq_of_sameRegisters {s t : State} (h : SameRegisters s t) : statusWord t = statusWord s := by
  obtain ⟨-, ⟨-, hrxn⟩, ⟨houtcome, hsnew, -⟩, ⟨-, hhcnt, -⟩, ⟨hmvalid, -⟩, heill⟩ := h
  simp only [statusWord, hrxn, houtcome, hsnew, hhcnt, hmvalid, heill]

/-- At reset every field that the status word shows is zero (R221). -/
theorem statusWord_reset : statusWord State.reset = 0#32 := by decide

end Sys2Proof.Machine

/-! The obligation of the reset state: O13 (70_reset_and_hazards.md R221). -/

namespace Sys2Proof.Proofs

open Sys2Proof.Machine Sys2Proof.Claims

/-- Settles O13: the registers are those of the reset state's definition; `SYS.STAT` answers the status word, which
any state with these registers shares with the reset state. -/
theorem resetStateIsAsSpecified : Obligations.ResetStateIsAsSpecified := by
  refine ⟨rfl, fun k => Vector.getElem_replicate k.isLt, rfl, rfl, rfl, rfl, rfl, rfl, rfl, rfl, rfl, rfl, rfl, rfl, rfl,
    rfl, rfl, fun s hs => ?_⟩
  have hstat : statusWord s = 0#32 := (statusWord_eq_of_sameRegisters hs).trans statusWord_reset
  calc exec .sysStat s = .next (respond .ok (statusWord s) s) := rfl
    _ = .next { s with out := s.out ++ [⟨.ok, 0#32⟩] } := by rw [hstat]; rfl

end Sys2Proof.Proofs

namespace Sys2Proof.Machine
end Sys2Proof.Machine

/-! SUPPORT. The encoder and the decoder undo each other (30_encoding.md R71 to R78, R84): the fields of a packed wire
frame are what it was packed from, and a frame is packed from its fields. -/

namespace Sys2Proof.Machine

/-- A 4-byte frame is packed from its three fields (R76). -/
theorem wire4Word_fields (w : Word) :
    wire4Word (w.extractLsb' 0 8) (w.extractLsb' 8 16) (w.extractLsb' 24 8) = w := by
  apply BitVec.eq_of_getLsbD_eq
  intro i hi
  interval_cases i <;> simp [wire4Word]

/-- The fields of a 4-byte frame are what it was packed from (R76). -/
theorem extractLsb'_wire4Word (kind : Byte) (data : Half) (crc : Byte) :
    (wire4Word kind data crc).extractLsb' 0 8 = kind ∧ (wire4Word kind data crc).extractLsb' 8 16 = data ∧
      (wire4Word kind data crc).extractLsb' 24 8 = crc := by
  refine ⟨?_, ?_, ?_⟩ <;> apply BitVec.eq_of_getLsbD_eq <;> intro i hi <;> interval_cases i <;> simp [wire4Word]

/-- An 8-byte frame is packed from its five fields (R76). -/
theorem wire8Word_fields (w : DWord) :
    wire8Word (w.extractLsb' 0 16) (w.extractLsb' 16 16) (w.extractLsb' 32 16) (w.extractLsb' 48 8)
      (w.extractLsb' 56 8) = w := by
  apply BitVec.eq_of_getLsbD_eq
  intro i hi
  interval_cases i <;> simp [wire8Word]

/-- The fields of an 8-byte frame are what it was packed from (R76). -/
theorem extractLsb'_wire8Word (duty ref avg : Half) (mstate crc : Byte) :
    (wire8Word duty ref avg mstate crc).extractLsb' 0 16 = duty ∧
      (wire8Word duty ref avg mstate crc).extractLsb' 16 16 = ref ∧
      (wire8Word duty ref avg mstate crc).extractLsb' 32 16 = avg ∧
      (wire8Word duty ref avg mstate crc).extractLsb' 48 8 = mstate ∧
      (wire8Word duty ref avg mstate crc).extractLsb' 56 8 = crc := by
  refine ⟨?_, ?_, ?_, ?_, ?_⟩ <;> apply BitVec.eq_of_getLsbD_eq <;> intro i hi <;> interval_cases i <;>
    simp [wire8Word]

/-- A packed SetSpeed frame decodes to its fields (R72). -/
theorem decode_setspeed (rpm : Half) (crc : Byte) :
    decode (encode (.setspeed rpm crc)) = .ok (.setspeed rpm crc) := by
  obtain ⟨hkind, hdata, hcrc⟩ := extractLsb'_wire4Word Config.kindSetSpeed rpm crc
  have hne : wire4Word Config.kindSetSpeed rpm crc ≠ 0xD6000002#32 := fun h => by
    rw [h] at hkind
    exact absurd hkind (by decide)
  simp only [encode, decode, decodeWire4, if_neg hne, hkind, hdata, hcrc, if_true]

/-- A packed telemetry frame decodes to its fields (R74). -/
theorem decode_telemetry (duty ref avg : Half) (mstate crc : Byte) :
    decode (encode (.telemetry duty ref avg mstate crc)) = .ok (.telemetry duty ref avg mstate crc) := by
  obtain ⟨hduty, href, havg, hmstate, hcrc⟩ := extractLsb'_wire8Word duty ref avg mstate crc
  simp only [encode, decode, decodeWire8, hduty, href, havg, hmstate, hcrc]

/-- The encoding of every instruction decodes to it. -/
theorem decode_encode (i : Instr) : decode (encode i) = .ok i := by
  cases i with
  | ckAbs b => rw [encode, commandWord_byte]; exact decode_ckAbs b
  | rxPush b => rw [encode, commandWord_byte]; exact decode_rxPush b
  | encSpd rpm => exact decode_encSpd rpm
  | hsPush v => exact decode_hsPush v
  | hsMet ref => exact decode_hsMet ref
  | hsRd idx => exact decode_hsRd idx
  | smpRd f => cases f <;> rfl
  | metRd f => cases f <;> rfl
  | setspeed rpm crc => exact decode_setspeed rpm crc
  | telemetry duty ref avg mstate crc => exact decode_telemetry duty ref avg mstate crc
  | _ => rfl

/-- A 4-byte frame that decodes is the encoding of its instruction. -/
theorem encode_of_decodeWire4 {w : Word} {i : Instr} (h : decodeWire4 w = .ok i) : encode i = .wire4 w := by
  unfold decodeWire4 at h
  split_ifs at h with htelemreq hkind <;> cases h
  · rw [htelemreq]
    rfl
  · rw [encode, ← hkind, wire4Word_fields]

/-- An encoding that decodes is the encoding of its instruction. -/
theorem encode_of_decode {e : Encoding} {i : Instr} (h : decode e = .ok i) : encode i = e := by
  cases e with
  | cmd32 w => exact encode_of_decodeCommand h
  | wire4 w => exact encode_of_decodeWire4 h
  | wire8 w => cases h; exact congrArg Encoding.wire8 (wire8Word_fields w)

end Sys2Proof.Machine

/-! SUPPORT. Runs of presented operations: what one operation does to `CRC` and to `EILL`, and what a list of them does
(10_state.md R25, 60_exceptions.md R196). -/

namespace Sys2Proof.Machine

open Sys2Proof.Claims

/-- The bytes absorbed by operations in a row. -/
theorem absorbed_cons (i : Instr) (is : List Instr) : absorbed (i :: is) = absorbed [i] ++ absorbed is := by
  cases i <;> rfl

/-- An instruction that clears no checksum absorbs its byte, if it has one to absorb (10_state.md R25). -/
theorem Effect.crc_eq_foldl_absorbed {i : Instr} {s t : State} (h : Effect s i t) (hclr : i ≠ .ckClr)
    (hrst : i ≠ .sysRst) : t.crc = (absorbed [i]).foldl crc8Byte s.crc := by
  cases h with
  | sysRst => exact absurd rfl hrst
  | ckClr => exact absurd rfl hclr
  | answer i hi =>
    cases i with
    | ckAbs b => cases hi
    | _ => rfl
  | telemetry duty ref avg mstate crc =>
    rw [decodeBuffer_crc]
    exact foldl_pushByte_keeps (·.crc) pushByte_crc _ s
  | _ => simp [absorbed]

/-- A presented operation is run by the next step and taken from the port. -/
theorem step_of_operation {i : Instr} {s : State} {rest : List Input} (hop : IsOperation i)
    (hp : s.port = .present (encode i) :: rest) :
    ∃ t, step s = .next t ∧ t.port = rest ∧ Effect { s with port := rest } i t := by
  obtain ⟨t, ht⟩ := exec_total i { s with port := rest }
  obtain ⟨r, hport, -, -⟩ := (effect_of_exec ht).one_response hop
  exact ⟨t, (step_of_decode hp (decode_encode i)).trans ht, hport, effect_of_exec ht⟩

/-- A step that runs a command word other than that of `SYS.RST` and ends with `EILL` clear began with it clear, and the
word was legal (60_exceptions.md R196). -/
theorem legal_of_step_eill_false {s t : State} {w : Word} {rest : List Input} (hp : s.port = command w :: rest)
    (hw : w ≠ 0x01000000#32) (hstep : step s = .next t) (ht : t.eill = false) :
    s.eill = false ∧ ¬ IllegalWord w := by
  refine ⟨?_, fun hill => ?_⟩
  · rcases step_eill_cases hstep with hkeep | ⟨-, x, rest', hp', hx⟩ | ⟨hset, -⟩
    · rw [← hkeep, ht]
    · rw [hp, List.cons.injEq] at hp'
      rcases hx with rfl | rfl
      · cases hp'.1
      · exact absurd (by simpa [command] using hp'.1) hw
    · simp [hset] at ht
  · cases (step_of_illegalWord hill hp).symm.trans hstep
    cases ht

/-- A run over command words takes them one by one. -/
theorem runsTo_cons_command {w : Word} {ws : List Word} {s t : State} {rest : List Input}
    (hp : s.port = (w :: ws).map command ++ rest) (hrun : RunsTo (w :: ws).length s t) :
    ∃ u, step s = .next u ∧ u.port = ws.map command ++ rest ∧ RunsTo ws.length u t := by
  obtain ⟨u, _, hstep, hport, -, -⟩ := Proofs.everyCommandWordHasOneResponse s w _ hp
  exact ⟨u, hstep, hport, (runSteps_succ _ hstep).symm.trans hrun⟩

/-- A run over command words without `SYS.RST` that ends with `EILL` clear began with it clear, and all its words were
legal (R196). -/
theorem legal_of_run_eill_false {ws : List Word} {s t : State} {rest : List Input}
    (hp : s.port = ws.map command ++ rest) (hws : ∀ w ∈ ws, w ≠ 0x01000000#32) (hrun : RunsTo ws.length s t)
    (ht : t.eill = false) : s.eill = false ∧ ∀ w ∈ ws, ¬ IllegalWord w := by
  induction ws generalizing s with
  | nil => cases hrun; exact ⟨ht, nofun⟩
  | cons w ws ih =>
    rw [List.forall_mem_cons] at hws ⊢
    obtain ⟨u, hstep, hport, hrest⟩ := runsTo_cons_command hp hrun
    obtain ⟨hu, hlegal⟩ := ih hport hws.2 hrest
    obtain ⟨hs, hw⟩ := legal_of_step_eill_false hp hws.1 hstep hu
    exact ⟨hs, hw, hlegal⟩

end Sys2Proof.Machine

/-! The obligations of the decoder's inverse and of runs: O4, O5 (30_encoding.md R71 to R78), O10 (20_memory.md R61),
O22 (10_state.md R25), O59 (60_exceptions.md R196). -/

namespace Sys2Proof.Proofs

open Sys2Proof.Machine Sys2Proof.Claims

/-- Settles O4: instruction by instruction, by the command words of the rows and the fields of the packed frames. -/
theorem decodeOfEncode : Obligations.DecodeOfEncode := decode_encode

/-- Settles O5: format by format; no bit of an accepted word is outside its fields. -/
theorem encodeOfDecode : Obligations.EncodeOfDecode := fun _ _ => encode_of_decode

/-- Settles O10: by induction over the words, each of which has one response. -/
theorem commandSequencesRunToCompletion : Obligations.CommandSequencesRunToCompletion := by
  intro ws
  induction ws with
  | nil => exact fun s rest hp => ⟨s, [], rfl, hp, rfl, (List.append_nil _).symm⟩
  | cons w ws ih =>
    intro s rest hp
    obtain ⟨u, r, hstep, hport, hout, -⟩ := everyCommandWordHasOneResponse s w _ hp
    obtain ⟨t, rs, hrun, hrest, hlen, hout'⟩ := ih u rest hport
    refine ⟨t, r :: rs, (runSteps_succ _ hstep).trans hrun, hrest, congrArg Nat.succ hlen, ?_⟩
    rw [hout', hout, List.append_assoc, List.singleton_append]

/-- Settles O22: by induction over the operations; each folds the byte it absorbs, or none. -/
theorem checksumIsTheFoldOfAbsorbedBytes : Obligations.ChecksumIsTheFoldOfAbsorbedBytes := by
  intro is
  induction is with
  | nil => exact fun s rest _ hp => ⟨s, rfl, hp, rfl⟩
  | cons i is ih =>
    intro s rest his hp
    obtain ⟨⟨hop, hclr, hrst⟩, his⟩ := List.forall_mem_cons.1 his
    obtain ⟨u, hstep, hport, heffect⟩ := step_of_operation hop hp
    obtain ⟨t, hrun, hrest, hcrc⟩ := ih u rest his hport
    refine ⟨t, (runSteps_succ _ hstep).trans hrun, hrest, ?_⟩
    rw [hcrc, heffect.crc_eq_foldl_absorbed hclr hrst, absorbed_cons i is, List.foldl_append]

/-- Settles O59: by induction over the words, from the last to the first: `EILL` clear after a word means it was clear
before it and the word was legal. -/
theorem eillZeroAtTheEndMeansEveryWordWasLegal : Obligations.EillZeroAtTheEndMeansEveryWordWasLegal :=
  fun _ _ _ _ hp hws hrun ht => (legal_of_run_eill_false hp hws hrun ht).2

end Sys2Proof.Proofs

/-! SUPPORT. The whole-state invariant (10_state.md R46) unit by unit: each clause is about the receive buffer, the
history, the sample or the metric, and each shared operation keeps the clauses of the units it writes. -/

namespace Sys2Proof.Machine

/-- The clauses of 10_state.md R46 (d) and (f): what the decode result says of the sample. -/
structure State.SampleInv (s : State) : Prop where
  snew_valid : s.snew = true → s.outcome = .valid
  none_zero : s.outcome = .none → s.duty = 0#16 ∧ s.ref = 0#16 ∧ s.avg = 0#16 ∧ s.mstate = 0#8 ∧ s.snew = false

/-- The clause of R46 (e): a held metric is that of the present history, of ten entries or more. -/
structure State.MetricInv (s : State) : Prop where
  mvalid_count : s.mvalid = true → 10 ≤ s.hcnt.toNat
  mvalid_devn : s.mvalid = true → s.devn.toNat = Machine.devn s.h
  mvalid_pctm : s.mvalid = true → s.pctm.toNat = Machine.pctm s.h
  mvalid_pctr : s.mvalid = true → ∃ r : Half, s.pctr.toNat = Machine.pctr s.h r

/-- The invariant is that of its four units. -/
theorem State.inv_iff {s : State} :
    s.Inv ↔ s.rxn.toNat ≤ 9 ∧ s.HistoryInv ∧ s.SampleInv ∧ s.MetricInv := by
  constructor
  · intro h
    exact ⟨h.rxn_le, h.historyInv, ⟨h.snew_valid, h.none_zero⟩,
      ⟨h.mvalid_count, h.mvalid_devn, h.mvalid_pctm, h.mvalid_pctr⟩⟩
  · rintro ⟨hrxn, hh, hs, hm⟩
    exact ⟨hrxn, hh.hcnt_le, hh.h_length, hh.sum_eq, hs.snew_valid, hm.mvalid_count, hm.mvalid_devn, hm.mvalid_pctm,
      hm.mvalid_pctr, hs.none_zero⟩

/-- The clauses of the sample see the sample alone. -/
theorem State.SampleInv.of_same {s t : State} (h : s.SampleInv) (hst : SameSample s t) : t.SampleInv := by
  obtain ⟨houtcome, hsnew, hduty, href, havg, hmstate⟩ := hst
  refine ⟨?_, ?_⟩ <;> rw [houtcome, hsnew]
  · exact h.snew_valid
  · rw [hduty, href, havg, hmstate]
    exact h.none_zero

/-- The clause of the metric sees the history and the metric alone. -/
theorem State.MetricInv.of_same {s t : State} (h : s.MetricInv) (hh : SameHistory s t) (hm : SameMetric s t) :
    t.MetricInv := by
  obtain ⟨heq, hcnt, -⟩ := hh
  obtain ⟨hmvalid, hdevn, hpctm, hpctr⟩ := hm
  refine ⟨?_, ?_, ?_, ?_⟩ <;> rw [hmvalid]
  · rw [hcnt]; exact h.mvalid_count
  · rw [hdevn, heq]; exact h.mvalid_devn
  · rw [hpctm, heq]; exact h.mvalid_pctm
  · rw [hpctr, heq]; exact h.mvalid_pctr

/-- Without a held metric its clause says nothing. -/
theorem State.MetricInv.of_not_held {s : State} (h : s.mvalid = false) : s.MetricInv := by
  refine ⟨?_, ?_, ?_, ?_⟩ <;> simp [h]

/-- A validated sample meets the clauses of the sample. -/
theorem State.SampleInv.of_valid {s : State} (h : s.outcome = .valid) : s.SampleInv :=
  ⟨fun _ => h, fun hnone => by simp [h] at hnone⟩

/-- An operation that leaves the history, the sample and the metric keeps the invariant. -/
theorem State.Inv.of_same {s t : State} (h : s.Inv) (hrxn : t.rxn.toNat ≤ 9) (hs : SameSample s t)
    (hh : SameHistory s t) (hm : SameMetric s t) : t.Inv := by
  obtain ⟨-, hhist, hsample, hmetric⟩ := State.inv_iff.1 h
  exact State.inv_iff.2 ⟨hrxn, hhist.of_same hh, hsample.of_same hs, hmetric.of_same hh hm⟩

/-- A response keeps the invariant. -/
theorem respond_inv {s : State} (h : s.Inv) (st : Status) (d : Word) : (respond st d s).Inv :=
  h.of_same h.rxn_le ⟨rfl, rfl, rfl, rfl, rfl, rfl⟩ ⟨rfl, rfl, rfl⟩ ⟨rfl, rfl, rfl, rfl⟩

/-- The reset registers meet the invariant (70_reset_and_hazards.md R221). -/
theorem resetBlock_inv (s : State) : (resetBlock s).Inv :=
  State.inv_iff.2 ⟨Nat.zero_le 9, ⟨Nat.zero_le 50, rfl, rfl⟩, ⟨nofun, fun _ => ⟨rfl, rfl, rfl, rfl, rfl⟩⟩,
    .of_not_held rfl⟩

/-- Emptying the buffer keeps the invariant (41_codec.md R126). -/
theorem emptyBuffer_inv {s : State} (h : s.Inv) : (emptyBuffer s).Inv :=
  h.of_same (Nat.zero_le 9) ⟨rfl, rfl, rfl, rfl, rfl, rfl⟩ ⟨rfl, rfl, rfl⟩ ⟨rfl, rfl, rfl, rfl⟩

/-- An illegal word keeps the invariant (30_encoding.md R88). -/
theorem raiseIllegal_inv {s : State} (h : s.Inv) : (raiseIllegal s).Inv :=
  h.of_same h.rxn_le ⟨rfl, rfl, rfl, rfl, rfl, rfl⟩ ⟨rfl, rfl, rfl⟩ ⟨rfl, rfl, rfl, rfl⟩

/-- A received byte keeps the invariant: `RXN` counts to nine at most (41_codec.md R127, R128). -/
theorem pushByte_inv {s : State} (h : s.Inv) (b : Byte) : (pushByte b s).Inv := by
  refine h.of_same ?_ (by simp [SameSample]) (by simp [SameHistory]) (by simp [SameMetric])
  rcases pushByte_cases b s with ⟨hroom, hpush⟩ | ⟨-, hpush⟩ <;> rw [hpush, respond_rxn]
  · bv_omega
  · exact Nat.le_refl 9

/-- Received bytes keep the invariant. -/
theorem foldl_pushByte_inv {s : State} (h : s.Inv) (bytes : List Byte) :
    (bytes.foldl (fun t b => pushByte b t) s).Inv := by
  induction bytes generalizing s with
  | nil => exact h
  | cons b bytes ih => exact ih (pushByte_inv h b)

/-- A decode leaves a sample only when it validated the buffer (41_codec.md R132). -/
theorem decodeBuffer_sampleInv (s : State) : (decodeBuffer s).SampleInv := by
  rcases decodeBuffer_cases s with ⟨-, hdec⟩ | ⟨-, -, hdec⟩ | ⟨-, -, hdec⟩ <;> rw [hdec]
  · exact ⟨nofun, nofun⟩
  · exact ⟨nofun, nofun⟩
  · exact .of_valid rfl

/-- A decode keeps the invariant. -/
theorem decodeBuffer_inv {s : State} (h : s.Inv) : (decodeBuffer s).Inv := by
  obtain ⟨-, hhist, -, hmetric⟩ := State.inv_iff.1 h
  have hh : SameHistory s (decodeBuffer s) := by simp [SameHistory]
  have hm : SameMetric s (decodeBuffer s) := by simp [SameMetric]
  exact State.inv_iff.2 ⟨by simp, hhist.of_same hh, decodeBuffer_sampleInv s, hmetric.of_same hh hm⟩

/-- An update leaves the metric of the history it read, or none (42_history.md R159). -/
theorem metricUpdate_metricInv {s : State} (h : s.HistoryInv) (r : Half) : (metricUpdate r s).MetricInv := by
  rcases Nat.lt_or_ge s.hcnt.toNat 10 with hn | hn
  · exact .of_not_held (by simpa using hn)
  · obtain ⟨-, hdevn, hpctm, hpctr⟩ := metricUpdate_metric h r hn
    refine ⟨fun _ => ?_, fun _ => ?_, fun _ => ?_, fun _ => ⟨r, ?_⟩⟩
    · rwa [metricUpdate_hcnt]
    · rwa [metricUpdate_h]
    · rwa [metricUpdate_h]
    · rwa [metricUpdate_h]

/-- The answer of an update keeps the invariant of the buffer, the history and the sample (R160, R162). -/
theorem answerMetric_metricUpdate_inv {s : State} (hrxn : s.rxn.toNat ≤ 9) (hh : s.HistoryInv) (hs : s.SampleInv)
    (r : Half) : (answerMetric (metricUpdate r s)).Inv :=
  State.inv_iff.2 ⟨by simpa using hrxn, hh.of_same (by simp [SameHistory]), hs.of_same (by simp [SameSample]),
    (metricUpdate_metricInv hh r).of_same (by simp [SameHistory]) (by simp [SameMetric])⟩

/-- A push keeps the invariant when the metric is dropped (R161). -/
theorem clearMvalid_histPush_inv {s : State} (h : s.Inv) (v : Half) : (clearMvalid (histPush v s)).Inv := by
  obtain ⟨hrxn, hhist, hsample, -⟩ := State.inv_iff.1 h
  exact State.inv_iff.2 ⟨by simpa using hrxn, (histPush_historyInv hhist v).of_same ⟨rfl, rfl, rfl⟩,
    hsample.of_same (by simp [SameSample]), .of_not_held rfl⟩

/-- Every instruction keeps the invariant (10_state.md R46). -/
theorem Effect.inv {i : Instr} {s t : State} (h : Effect s i t) (hs : s.Inv) : t.Inv := by
  obtain ⟨hrxn, hhist, hsample, -⟩ := State.inv_iff.1 hs
  cases h with
  | sysRst => exact respond_inv (resetBlock_inv s) ..
  | rxClr => exact respond_inv (emptyBuffer_inv hs) ..
  | rxPush b => exact pushByte_inv hs b
  | dec => exact decodeBuffer_inv hs
  | smpAcc hv hn =>
    exact answerMetric_metricUpdate_inv (by simpa using hrxn) (clearSnew_histPush_historyInv hhist s.avg)
      (.of_valid (by simpa using hv)) s.ref
  | hsPush v => exact respond_inv (clearMvalid_histPush_inv hs v) ..
  | hsMet ref => exact answerMetric_metricUpdate_inv hrxn hhist hsample ref
  | telemetry duty ref avg mstate crc => exact decodeBuffer_inv (foldl_pushByte_inv hs _)
  | _ => exact hs.of_same hrxn (by simp [SameSample]) (by simp [SameHistory]) (by simp [SameMetric])

/-- Every step keeps the invariant (R46). -/
theorem step_inv {s t : State} (hs : s.Inv) (h : step s = .next t) : t.Inv := by
  have htaken : ∀ rest, State.Inv { s with port := rest } := fun _ =>
    hs.of_same hs.rxn_le ⟨rfl, rfl, rfl, rfl, rfl, rfl⟩ ⟨rfl, rfl, rfl⟩ ⟨rfl, rfl, rfl, rfl⟩
  rcases step_cases s with ⟨-, hstep⟩ | ⟨rest, -, hstep⟩ | ⟨e, rest, i, -, -, hstep⟩ | ⟨e, rest, r, -, -, hstep⟩ <;>
    rw [hstep] at h
  · cases h; exact hs
  · cases h; exact resetBlock_inv _
  · exact (effect_of_exec h).inv (htaken rest)
  · cases e with
    | cmd32 w => cases h; exact raiseIllegal_inv (htaken rest)
    | wire4 w => cases h
    | wire8 w => cases h

/-- `MET.RD` answers OK only while a metric is held, and then with the register the selector names, where that is not
`SUM` or `HCNT` (42_history.md R167). -/
theorem metRd_ok {t u : State} {f : MetricSel} {d : Word} (h : exec (.metRd f) t = .next u)
    (hout : u.out = t.out ++ [⟨.ok, d⟩]) (hsum : f ≠ .sum) (hcnt : f ≠ .hcnt) :
    t.mvalid = true ∧ d = metricField t f := by
  by_cases hv : t.mvalid = true
  · cases (exec_metRd_of_held (.inl hv)).symm.trans h
    exact ⟨hv, by simpa using hout.symm⟩
  · cases (exec_metRd_of_not_held (by simp [hv, hsum, hcnt])).symm.trans h
    simp at hout

end Sys2Proof.Machine

/-! The obligations of the whole-state invariant: O11, O12, O50 (10_state.md R46, R37). -/

namespace Sys2Proof.Proofs

open Sys2Proof.Machine Sys2Proof.Claims

/-- Settles O11: by what one step can do, and by the effects of the instructions. -/
theorem everyStepKeepsTheInvariant : Obligations.EveryStepKeepsTheInvariant := fun _ _ => step_inv

/-- Settles O12: a reset leaves the reset registers, whatever state it meets. -/
theorem resetMeetsTheInvariant : Obligations.ResetMeetsTheInvariant := resetBlock_inv State.reset

/-- Settles O50: after the step the invariant holds, and an OK answer means that a metric is held. -/
theorem metricIsNeverStale : Obligations.MetricIsNeverStale := by
  intro s t hs hstep u d hout
  have hinv : t.Inv := step_inv hs hstep
  refine ⟨fun h => ?_, fun h => ?_, fun h => ?_⟩ <;> obtain ⟨hv, rfl⟩ := metRd_ok h hout nofun nofun <;>
    refine ⟨hinv.h_length ▸ hinv.mvalid_count hv, ?_⟩
  · exact hinv.mvalid_pctm hv
  · exact hinv.mvalid_pctr hv
  · rw [metricField, BitVec.toNat_setWidth_of_le (by omega)]
    exact hinv.mvalid_devn hv

end Sys2Proof.Proofs

/-! SUPPORT. The number of legal command words (30_encoding.md R89): row by row, the words of a row's operation code are
as many as the operands its form accepts. -/

namespace Sys2Proof.Machine

open Sys2Proof.Claims

/-- The operands that an operand form accepts. -/
def acceptedOperands (form : Half → Except Reject Instr) : Set Half := {arg | ∃ i, form arg = .ok i}

/-- The words of a row: its operation code, no reserved bits, an operand that its form accepts. -/
def rowWords (row : Byte × (Half → Except Reject Instr)) : Set Word :=
  commandWord row.1 '' acceptedOperands row.2

/-- A row's words have its operation code. -/
theorem opField_of_mem_rowWords {row : Byte × (Half → Except Reject Instr)} {w : Word} (h : w ∈ rowWords row) :
    opField w = row.1 := by
  obtain ⟨arg, -, rfl⟩ := h
  exact opField_commandWord row.1 arg

/-- A row has as many words as its form accepts operands. -/
theorem ncard_rowWords (row : Byte × (Half → Except Reject Instr)) :
    (rowWords row).ncard = (acceptedOperands row.2).ncard :=
  Set.ncard_image_of_injective _ fun a b hab => by
    simpa using congrArg argField hab

/-- Rows with distinct operation codes have as many words together as one by one. -/
theorem ncard_words_of_rows {rows : List (Byte × (Half → Except Reject Instr))} (h : (rows.map Prod.fst).Nodup) :
    {w : Word | ∃ row ∈ rows, w ∈ rowWords row}.ncard =
      (rows.map fun row => (acceptedOperands row.2).ncard).sum := by
  induction rows with
  | nil => simp
  | cons row rows ih =>
    obtain ⟨hnew, hnodup⟩ := List.nodup_cons.1 (List.map_cons ▸ h)
    have hdisjoint : Disjoint (rowWords row) {w : Word | ∃ row ∈ rows, w ∈ rowWords row} := by
      rw [Set.disjoint_left]
      rintro w hw ⟨row', hrow', hw'⟩
      refine hnew (List.mem_map.2 ⟨row', hrow', ?_⟩)
      rw [← opField_of_mem_rowWords hw, ← opField_of_mem_rowWords hw']
    have hunion : {w : Word | ∃ r ∈ row :: rows, w ∈ rowWords r} =
        rowWords row ∪ {w : Word | ∃ row ∈ rows, w ∈ rowWords row} := by
      ext w
      simp
    rw [hunion, Set.ncard_union_eq hdisjoint, ih hnodup, ncard_rowWords, List.map_cons, List.sum_cons]

/-- A command word is legal when it is one of a row's. -/
theorem decodes_iff_mem_rowWords (w : Word) :
    (∃ i, decode (.cmd32 w) = .ok i) ↔ ∃ row ∈ opTable, w ∈ rowWords row := by
  constructor
  · rintro ⟨i, h⟩
    obtain ⟨row, hrow, hop, hr, hi⟩ := (decodeCommand_eq_ok_iff w i).1 h
    exact ⟨row, hrow, argField w, ⟨i, hi⟩, hop ▸ commandWord_fields hr⟩
  · rintro ⟨row, hrow, arg, ⟨i, hi⟩, rfl⟩
    exact ⟨i, (decode_commandWord hrow arg).trans hi⟩

/-- There are `2 ^ n` words of `n` bits. -/
theorem natCard_bitVec (n : Nat) : Nat.card (BitVec n) = 2 ^ n :=
  (Nat.card_congr BitVec.equivFin.toEquiv).trans (Nat.card_fin _)

section forms
variable (q : Reject)

/-- The operands that a checked form accepts are those from which it reads an instruction. -/
theorem acceptedOperands_orReject (form : Half → Option Instr) :
    acceptedOperands (fun arg => orReject q (form arg)) = {arg | ∃ i, form arg = some i} := by
  simp only [acceptedOperands, orReject_eq_ok_iff]

/-- Form `none` accepts one operand. -/
theorem ncard_formNone (i : Instr) : (acceptedOperands fun arg => orReject q (formNone arg i)).ncard = 1 := by
  rw [acceptedOperands_orReject]
  simp [formNone_eq_some_iff]

/-- Form `byte` accepts 256 operands. -/
theorem ncard_formByte (k : Byte → Instr) : (acceptedOperands fun arg => orReject q (formByte arg k)).ncard = 256 := by
  have hbytes : {arg : Half | ∃ i, formByte arg k = some i} = Set.range fun b : Byte => b.setWidth 16 := by
    ext arg
    simp [formByte_eq_some_iff]
  have hinj : Function.Injective fun b : Byte => b.setWidth 16 := fun a b hab => by
    simpa using congrArg (BitVec.setWidth 8) hab
  rw [acceptedOperands_orReject, hbytes, ← Set.image_univ, Set.ncard_image_of_injective _ hinj, Set.ncard_univ,
    natCard_bitVec]
  rfl

/-- Forms `half` and `index` accept every operand. -/
theorem ncard_formHalf (k : Half → Instr) : (acceptedOperands fun arg => .ok (formHalf arg k)).ncard = 65536 := by
  have huniv : (acceptedOperands fun arg => .ok (formHalf arg k)) = Set.univ := by
    ext arg
    simp [acceptedOperands]
  rw [huniv, Set.ncard_univ, natCard_bitVec]
  rfl

/-- Form `sel` accepts five operands. -/
theorem ncard_formSel {α : Type} {sel : Half → Option α} (k : α → Instr)
    (hsel : ∀ arg, sel arg = none ↔ 4 < arg.toNat) :
    (acceptedOperands fun arg => orReject q ((sel arg).map k)).ncard = 5 := by
  have hfive : {arg : Half | ∃ i, (sel arg).map k = some i} = ({0#16, 1#16, 2#16, 3#16, 4#16} : Finset Half) := by
    ext arg
    rw [Set.mem_ofPred_eq, ← Option.isSome_iff_exists, Option.isSome_map, Option.isSome_iff_ne_none, Ne, hsel]
    simp
    bv_omega
  rw [acceptedOperands_orReject, hfive, Set.ncard_coe_finset]
  rfl

end forms

/-- Eight codes take no operand, two a byte, four a half or an index, two a selector (R84, R89). -/
theorem sum_ncard_acceptedOperands : (opTable.map fun row => (acceptedOperands row.2).ncard).sum = 262674 := by
  simp only [opTable, List.cons_append, List.nil_append, List.map_cons, List.map_nil, ncard_formNone, ncard_formByte,
    ncard_formHalf, ncard_formSel _ _ fun _ => sampleSelOf_eq_none_iff,
    ncard_formSel _ _ fun _ => metricSelOf_eq_none_iff]
  rfl

end Sys2Proof.Machine

namespace Sys2Proof.Proofs

open Sys2Proof.Machine Sys2Proof.Claims

/-- Settles O8: the legal words row by row; 0x00 and 0xFF are no operation codes. -/
theorem legalWordCount : Obligations.LegalWordCount := by
  refine ⟨?_, nofun, nofun⟩
  simp only [decodes_iff_mem_rowWords]
  rw [ncard_words_of_rows opCodes_nodup, sum_ncard_acceptedOperands]

end Sys2Proof.Proofs

/-! SUPPORT. The checksum is linear (40_checksum.md R112): a bit iteration keeps exclusive ors, so the fold over bytes
does. -/

namespace Sys2Proof.Machine

/-- A bit iteration keeps exclusive ors. -/
theorem shiftBit_xor (x y : Byte) : shiftBit (x ^^^ y) = shiftBit x ^^^ shiftBit y := by
  have hmask : ∀ z : Byte, shiftBit z = z <<< 1 ^^^ (if z.getLsbD 7 then Config.poly else 0#8) := fun z => by
    unfold shiftBit
    split <;> simp
  have hpoly : (if (x ^^^ y).getLsbD 7 then Config.poly else 0#8) =
      (if x.getLsbD 7 then Config.poly else 0#8) ^^^ (if y.getLsbD 7 then Config.poly else 0#8) := by
    rw [BitVec.getLsbD_xor]
    cases x.getLsbD 7 <;> cases y.getLsbD 7 <;> rfl
  rw [hmask, hmask, hmask, hpoly, BitVec.shiftLeft_xor_distrib]
  ac_rfl

/-- Bit iterations in a row keep exclusive ors. -/
theorem iterate_shiftBit_xor (n : Nat) (x y : Byte) : shiftBit^[n] (x ^^^ y) = shiftBit^[n] x ^^^ shiftBit^[n] y := by
  induction n with
  | zero => rfl
  | succ n ih => simp only [Function.iterate_succ_apply', ih, shiftBit_xor]

/-- The byte step keeps exclusive ors of both its bytes. -/
theorem crc8Byte_xor (c d x y : Byte) : crc8Byte (c ^^^ d) (x ^^^ y) = crc8Byte c x ^^^ crc8Byte d y := by
  rw [crc8Byte_eq_shiftBit, crc8Byte_eq_shiftBit, crc8Byte_eq_shiftBit, ← iterate_shiftBit_xor]
  ac_rfl

/-- The checksum of messages of one length keeps exclusive ors, from any two running values. -/
theorem crc8From_zipWith_xor {m e : List Byte} (h : m.length = e.length) (c d : Byte) :
    crc8From (c ^^^ d) (List.zipWith (fun x y => x ^^^ y) m e) = crc8From c m ^^^ crc8From d e := by
  induction m generalizing e c d with
  | nil => rw [List.length_eq_zero_iff.1 h.symm]; rfl
  | cons x m ih =>
    obtain ⟨y, e, rfl⟩ := List.exists_cons_of_length_eq_add_one h.symm
    have hstep := ih (Nat.succ.inj h) (crc8Byte c x) (crc8Byte d y)
    rwa [← crc8Byte_xor] at hstep

/-- With one of its bytes fixed, the byte step takes every value once. -/
theorem crc8Byte_bijective (a : Byte) :
    Function.Bijective (fun c => crc8Byte c a) ∧ Function.Bijective (fun b => crc8Byte a b) :=
  ⟨Finite.injective_iff_bijective.1 fun _ _ h => (BitVec.xor_left_inj _).1 (crc8Byte_eq_iff.1 h),
    Finite.injective_iff_bijective.1 fun _ _ h => (BitVec.xor_right_inj _).1 (crc8Byte_eq_iff.1 h)⟩

/-- Zero bytes leave a zero checksum (R111). -/
theorem crc8_replicate_zero (k : Nat) : crc8 (List.replicate k 0#8) = 0#8 := by
  induction k with
  | zero => rfl
  | succ k ih =>
    rw [List.replicate_succ, ← List.singleton_append, crc8_append]
    exact ih

end Sys2Proof.Machine

/-! The obligations of the checksum's algebra: O20 (40_checksum.md R112), O21 (R110, R111). -/

namespace Sys2Proof.Proofs

open Sys2Proof.Machine

/-- Settles O20: the byte step keeps exclusive ors and loses nothing of either byte. -/
theorem checksumIsLinearAndSeesOneByte : Obligations.ChecksumIsLinearAndSeesOneByte :=
  ⟨fun _ _ h => crc8From_zipWith_xor h Config.init Config.init, fun _ _ _ _ => crc8_ne_of_one_byte,
    fun b => (crc8Byte_bijective b).1, fun c => (crc8Byte_bijective c).2⟩

/-- Settles O21: a byte cancels a checksum exactly when it equals it, and zero bytes keep the initial value. -/
theorem zeroResidueAndZeroBlindness : Obligations.ZeroResidueAndZeroBlindness := by
  refine ⟨fun m => crc8_eq_iff_residue.1 rfl, fun m b => crc8_eq_iff_residue, fun k m => ⟨?_, crc8_replicate_zero k⟩⟩
  rw [crc8_append, crc8_replicate_zero, crc8]

end Sys2Proof.Proofs

/-! SUPPORT. The wire frames (30_encoding.md R72 to R74, log 4): a telemetry frame as eight received bytes and a decode,
from an empty buffer and from one that holds bytes already. -/

namespace Sys2Proof.Machine

open Sys2Proof.Claims

/-- Receiving bytes does not depend on what is still presented. -/
theorem foldl_pushByte_with_port (bytes : List Byte) (s : State) (rest : List Input) :
    bytes.foldl (fun t b => pushByte b t) { s with port := rest } =
      { bytes.foldl (fun t b => pushByte b t) s with port := rest } := by
  induction bytes generalizing s with
  | nil => rfl
  | cons b bytes ih => rw [List.foldl_cons, pushByte_with_port, ih, List.foldl_cons]

/-- Bytes presented by `RX.PUSH` and then `DEC` run to the decode of the received bytes. -/
theorem run_of_rxPushes_dec {bytes : List Byte} {s : State} {rest : List Input}
    (hp : s.port = bytes.map (fun b => command (0x31000000#32 ||| b.setWidth 32)) ++ command 0x32000000#32 :: rest) :
    RunsTo (bytes.length + 1) s
      (decodeBuffer (bytes.foldl (fun t b => pushByte b t) { s with port := rest })) := by
  have hpush := run_of_byteOps step_of_rxPush pushByte_with_port bytes s _ hp
  rw [foldl_pushByte_with_port] at hpush ⊢
  exact (runSteps_add 1 hpush).trans (runSteps_succ 0 (step_of_decode (i := .dec) rfl rfl))

/-- `RXN` counts received bytes up to nine (41_codec.md R127, R128). -/
theorem pushByte_rxn_toNat (b : Byte) (s : State) : (pushByte b s).rxn.toNat = min (s.rxn.toNat + 1) 9 := by
  rcases pushByte_cases b s with ⟨hroom, hpush⟩ | ⟨hfull, hpush⟩ <;> rw [hpush, respond_rxn]
  · bv_omega
  · rw [min_eq_right (by omega)]
    rfl

/-- Bytes received in a row are counted up to nine, onto those that were there. -/
theorem foldl_pushByte_rxn_toNat (bytes : List Byte) (s : State) :
    min (bytes.foldl (fun t b => pushByte b t) s).rxn.toNat 9 = min (s.rxn.toNat + bytes.length) 9 := by
  induction bytes generalizing s with
  | nil => rfl
  | cons b bytes ih =>
    rw [List.foldl_cons, ih, pushByte_rxn_toNat, List.length_cons]
    omega

/-- A whole frame received into a buffer that holds bytes already is more than eight bytes. -/
theorem foldl_pushByte_rxn_ne {s : State} {bytes : List Byte} (hs : s.rxn ≠ 0#4) (h8 : bytes.length = 8) :
    (bytes.foldl (fun t b => pushByte b t) s).rxn ≠ 8#4 := by
  have hcount := foldl_pushByte_rxn_toNat bytes s
  intro h
  rw [h, h8] at hcount
  bv_omega

/-- A telemetry frame is well formed when its last byte is the checksum of the others (30_encoding.md R75). -/
theorem wf_telemetry_iff {duty ref avg : Half} {mstate crc : Byte} :
    (Instr.telemetry duty ref avg mstate crc).wf = true ↔ crc8 (telemetryPayload duty ref avg mstate) = crc :=
  beq_iff_eq.trans eq_comm

/-- A telemetry frame received into an empty buffer is what the buffer holds; with bytes there already the buffer does
not count eight. Nothing but the buffer and the responses changes. -/
theorem foldl_pushByte_telemetryBytes (duty ref avg : Half) (mstate crc : Byte) (s : State) :
    ∃ x n o, (telemetryBytes duty ref avg mstate crc).foldl (fun t b => pushByte b t) s =
        { s with rxb := x, rxn := n, out := o } ∧
      (s.rxn = 0#4 → n = 8#4 ∧ rxPayload x = telemetryPayload duty ref avg mstate ∧ x[7] = crc) ∧
      (s.rxn ≠ 0#4 → n ≠ 8#4) := by
  obtain ⟨x, n, o, hfold⟩ := foldl_pushByte_writes (telemetryBytes duty ref avg mstate crc) s
  refine ⟨x, n, o, hfold, fun hs => ?_, fun hs => ?_⟩
  · have hrec := received_foldl_pushByte hs (telemetryBytes duty ref avg mstate crc)
    rw [hfold] at hrec
    exact hrec.frame rfl
  · have hcount : ((telemetryBytes duty ref avg mstate crc).foldl (fun t b => pushByte b t) s).rxn ≠ 8#4 :=
      foldl_pushByte_rxn_ne hs rfl
    rwa [hfold] at hcount

/-- A decode that does not validate keeps the sample registers (10_state.md R29). -/
theorem decodeBuffer_keeps_sample {s : State} (h : (decodeBuffer s).outcome ≠ .valid) :
    (decodeBuffer s).duty = s.duty ∧ (decodeBuffer s).ref = s.ref ∧ (decodeBuffer s).avg = s.avg ∧
      (decodeBuffer s).mstate = s.mstate := by
  rcases decodeBuffer_sample_cases s with ⟨hvalid, -⟩ | ⟨-, hkeep⟩
  · exact absurd hvalid h
  · exact hkeep

/-- A telemetry frame is received and decoded (log 4). -/
theorem exec_telemetry (duty ref avg : Half) (mstate crc : Byte) (s : State) :
    exec (.telemetry duty ref avg mstate crc) s =
      .next (decodeBuffer ((telemetryBytes duty ref avg mstate crc).foldl (fun t b => pushByte b t) s)) := by
  rw [exec, execTelemetry]

end Sys2Proof.Machine

/-! SUPPORT. An update reads the history alone, so `SMP.ACC` is a push and an update (42_history.md R163). -/

namespace Sys2Proof.Machine

/-- Updates of one history leave one metric, where both start from one metric or the history is long enough (R159). -/
theorem metricUpdate_congr {s t : State} (r : Half) (hh : SameHistory s t) (hdevn : t.devn = s.devn)
    (hpctm : t.pctm = s.pctm) (hpctr : t.pctr = s.pctr) : SameMetric (metricUpdate r s) (metricUpdate r t) := by
  obtain ⟨heq, hcnt, -⟩ := hh
  rcases Nat.lt_or_ge s.hcnt.toNat 10 with hn | hn
  · rw [metricUpdate_of_few r hn, metricUpdate_of_few r (hcnt ▸ hn)]
    exact ⟨rfl, hdevn, hpctm, hpctr⟩
  · rw [metricUpdate_of_enough r hn, metricUpdate_of_enough r (hcnt ▸ hn), SameMetric, heq]
    exact ⟨rfl, rfl, rfl, rfl⟩

end Sys2Proof.Machine

/-! The obligations of the wire frames and of the whole flow of a sample: O39 (60_exceptions.md R194), O40, O41, O42
(30_encoding.md R72 to R74, 90_conflicts.md C4), O49 (42_history.md R163). -/

namespace Sys2Proof.Proofs

open Sys2Proof.Machine Sys2Proof.Claims

/-- Settles O39: a decode writes the buffer and the sample alone, and only a validated sample is accumulated. -/
theorem failedDecodeIsInvisible : Obligations.FailedDecodeIsInvisible := by
  intro s t h hv
  cases h
  exact ⟨by simp [SameHistory], by simp [SameMetric], decodeBuffer_rxn s, decodeBuffer_crc s, decodeBuffer_eill s,
    exec_smpAcc_of_not_valid hv⟩

/-- Settles O40: each operation is its meaning; the constant frame is computed. -/
theorem commandFramesOnlyGoOnTheLink : Obligations.CommandFramesOnlyGoOnTheLink := by
  refine ⟨fun _ _ _ => rfl, fun s => ?_⟩
  have hframe : cmdframe Config.kindTelemReq 0#16 = [0x02#8, 0x00#8, 0x00#8, 0xD6#8] := by decide +kernel
  rw [exec, execTelemreq, hframe, putOnLink]

/-- Settles O41: the nine operations fold `RX.PUSH` over the eight bytes and decode, as the frame does. -/
theorem telemetryFrameIsNineOperations : Obligations.TelemetryFrameIsNineOperations :=
  fun _ duty ref avg mstate c _ hp => ⟨_, exec_telemetry duty ref avg mstate c _, run_of_rxPushes_dec hp⟩

/-- Settles O42: by what the buffer holds after the eight bytes, and the three cases of a decode. -/
theorem telemetryFrameRoundTrip : Obligations.TelemetryFrameRoundTrip := by
  intro s duty ref avg mstate c
  obtain ⟨x, n, o, hfold, hempty, hmore⟩ := foldl_pushByte_telemetryBytes duty ref avg mstate c s
  obtain ⟨hshort, hmismatch, hvalid⟩ := decodeBuffer_result { s with rxb := x, rxn := n, out := o }
  refine ⟨_, exec_telemetry duty ref avg mstate c s, ?_⟩
  rw [hfold]
  refine ⟨decodeBuffer_rxn _, decodeBuffer_crc _, by simp [SameHistory], by simp [SameMetric], decodeBuffer_eill _,
    decodeBuffer_port _, decodeBuffer_sent _, fun hs hwf => ?_, fun hs hwf => ?_, fun hs => ?_⟩
  · obtain ⟨hn, hpayload, hlast⟩ := hempty hs
    obtain ⟨houtcome, hsnew, hduty, href, havg, hmstate⟩ :=
      hvalid hn (by rw [hpayload, hlast, wf_telemetry_iff.1 hwf])
    simp only [rxPayload, telemetryPayload, List.cons.injEq] at hpayload
    simp [houtcome, hsnew, hduty, href, havg, hmstate, hpayload]
  · obtain ⟨hn, hpayload, hlast⟩ := hempty hs
    have hne : crc8 (rxPayload x) ≠ x[7] := by
      rw [hpayload, hlast]
      exact fun h => Bool.false_ne_true (hwf.symm.trans (wf_telemetry_iff.2 h))
    obtain ⟨houtcome, hsnew⟩ := hmismatch hn hne
    exact ⟨houtcome, hsnew, decodeBuffer_keeps_sample (by rw [houtcome]; exact nofun)⟩
  · obtain ⟨houtcome, hsnew⟩ := hshort (hmore hs)
    exact ⟨houtcome, hsnew, decodeBuffer_keeps_sample (by rw [houtcome]; exact nofun)⟩

/-- Settles O49: the two updates read the same history and start from the same metric. -/
theorem smpAccIsPushThenMetric : Obligations.SmpAccIsPushThenMetric := by
  intro s hv hn
  refine ⟨_, _, _, exec_smpAcc_of_new hv hn, rfl, rfl, by simp [SameHistory], ?_, by simp, by simp [hn]⟩
  have hmetric : SameMetric
      (metricUpdate s.ref (respond .ok ((histPush s.avg s).hcnt.setWidth 32) (clearMvalid (histPush s.avg s))))
      (metricUpdate s.ref (clearSnew (histPush s.avg s))) :=
    metricUpdate_congr s.ref ⟨rfl, rfl, rfl⟩ rfl rfl rfl
  simpa [SameMetric] using hmetric

end Sys2Proof.Proofs

/-! SUPPORT. The metric's arithmetic (42_history.md R153, R155, R158, R168): the greatest deviation at the extremes, the
rounding error, and the order of the entries. -/

namespace Sys2Proof.Machine

open Sys2Proof.Claims

/-- Only the greatest and the least entry can attain the greatest deviation (R153). -/
theorem devn_eq_max {h : List Half} {hi lo : Half} (hhi : hi ∈ h) (hlo : lo ∈ h)
    (hb : ∀ x ∈ h, lo.toNat ≤ x.toNat ∧ x.toNat ≤ hi.toNat) :
    devn h = max (h.length * hi.toNat - histSum h) (histSum h - h.length * lo.toNat) := by
  apply le_antisymm
  · refine devn_le_of_forall fun x hx => ?_
    obtain ⟨hlox, hxhi⟩ := hb x hx
    have hbelow := Nat.mul_le_mul_left h.length hlox
    have habove := Nat.mul_le_mul_left h.length hxhi
    rw [entryDev, ← Nat.cast_mul]
    omega
  · have hdevhi := entryDev_le_devn hhi
    have hdevlo := entryDev_le_devn hlo
    rw [entryDev, ← Nat.cast_mul] at hdevhi hdevlo
    omega

/-- Rounding is off by half at most (R155). -/
theorem abs_rnd_sub_le (p : Nat) {q : Nat} (hq : 0 < q) : |(rnd p q : ℚ) - p / q| ≤ 1 / 2 := by
  obtain ⟨hle, hlt⟩ := rnd_bounds p hq
  have hle' : (2 * q * rnd p q : ℚ) ≤ 2 * p + q := mod_cast hle
  have hlt' : (2 * p + q : ℚ) < 2 * q * (rnd p q + 1) := mod_cast hlt
  have hpos : (0 : ℚ) < q := Nat.cast_pos.2 hq
  have hdist : (rnd p q : ℚ) - p / q = (q * rnd p q - p) / q := by field_simp
  rw [hdist, abs_div, abs_of_pos hpos, div_le_iff₀ hpos, abs_le]
  constructor <;> linarith

/-- A rounded percentage in units of 0.01 is off by 0.005 at most (R158). -/
theorem abs_rnd_percent_sub_le (m : Nat) {q : Nat} (hq : 0 < q) :
    |(rnd (10000 * m) q : ℚ) / 100 - 100 * m / q| ≤ 5 / 1000 := by
  have hround := abs_rnd_sub_le (10000 * m) hq
  have hscale : (rnd (10000 * m) q : ℚ) / 100 - 100 * m / q = (rnd (10000 * m) q - (10000 * m : ℕ) / q) / 100 := by
    push_cast
    ring
  rw [hscale, abs_div, abs_of_pos (by norm_num : (0 : ℚ) < 100)]
  linarith

/-- The percentage of the mean (R156) is within 0.005 of the exact one (R154), and 0 where that is 0. -/
theorem abs_pctm_sub_le (h : List Half) : |(pctm h : ℚ) / 100 - exactPctMean h| ≤ 5 / 1000 := by
  unfold pctm exactPctMean
  split_ifs with hsum
  · exact abs_rnd_percent_sub_le (devn h) hsum
  · norm_num

/-- The percentage of the reference (R157) is within 0.005 of the exact one (R154), and 0 where that is 0. -/
theorem abs_pctr_sub_le {h : List Half} (hne : h ≠ []) (r : Half) :
    |(pctr h r : ℚ) / 100 - exactPctRef h r| ≤ 5 / 1000 := by
  unfold pctr exactPctRef
  split_ifs with hr
  · rw [← Nat.cast_mul]
    exact abs_rnd_percent_sub_le (devn h) (Nat.mul_pos (List.length_pos_iff.2 hne) hr)
  · norm_num

/-- The sum does not depend on the order of the entries (R168). -/
theorem histSum_eq_of_perm {h k : List Half} (hp : h.Perm k) : histSum h = histSum k :=
  (hp.map _).sum_eq

/-- The greatest deviation does not depend on the order of the entries (R168). -/
theorem devn_eq_of_perm {h k : List Half} (hp : h.Perm k) : devn h = devn k := by
  rw [devn, devn, hp.length_eq, histSum_eq_of_perm hp]
  exact (hp.map _).foldr_eq 0

end Sys2Proof.Machine

/-! The obligations of the metric as a whole: O52 (42_history.md R153), O55 (R158), O56 (R168 (f)). -/

namespace Sys2Proof.Proofs

open Sys2Proof.Machine

/-- Settles O52: a bound of the entries' deviations that an extreme entry attains. -/
theorem devnIsTheGreatestDeviation : Obligations.DevnIsTheGreatestDeviation := by
  refine ⟨fun h x hx => entryDev_le_devn hx, fun h hne => ?_, fun h hi lo => devn_eq_max, fun h => ⟨?_, ?_⟩⟩
  · obtain ⟨x, hx, hdev⟩ := exists_entryDev_eq_devn hne
    exact ⟨x, hx, hdev.symm⟩
  · exact devn_le_pred_length_mul fun y _ => Nat.le_of_lt_succ y.isLt
  · exact devn_le_pred_length_mul fun _ => toNat_le_histSum

/-- Settles O55: both percentages are rounded quotients, off by half a unit of 0.01 at most. -/
theorem percentagesAreCorrectlyRounded : Obligations.PercentagesAreCorrectlyRounded :=
  fun h r hne => ⟨abs_pctm_sub_le h, abs_pctr_sub_le hne r⟩

/-- Settles O56: the sum and the maximum do not depend on the order, and the percentages depend on these alone. -/
theorem metricIgnoresTheOrderOfEntries : Obligations.MetricIgnoresTheOrderOfEntries := by
  intro h k r hp
  have hsum := histSum_eq_of_perm hp
  have hdevn := devn_eq_of_perm hp
  refine ⟨hsum, hdevn, ?_, ?_⟩
  · rw [pctm, pctm, hsum, hdevn]
  · rw [pctr, pctr, hdevn, hp.length_eq]

end Sys2Proof.Proofs

/-! SUPPORT. What one step takes from the port (logs 1, 3, 6, 7, 9). -/

namespace Sys2Proof.Machine

/-- A word of the opcode table that decodes is an encoding that decodes (log 6). -/
theorem decode_of_decodeTableWord {nbits w : Nat} {i : Instr} (h : decodeTableWord nbits w = some i) :
    decode (tableEncoding nbits w) = .ok i := by
  unfold decodeTableWord at h
  split at h
  next j hd => rw [hd, Option.some.inj h]
  next => cases h

/-- With nothing presented a step keeps the state (log 1). -/
theorem step_of_idle {s : State} (hp : s.port = []) : step s = .next s := by
  simp [step, takeNext, hp]

/-- The reset input resets every register (70_reset_and_hazards.md R220). -/
theorem step_of_hardReset {s : State} {rest : List Input} (hp : s.port = .hardReset :: rest) :
    step s = .next (resetBlock { s with port := rest }) := by
  simp [step, takeNext, takeInput, hp]

/-- A 4-byte frame that is neither command frame is refused (log 7). -/
theorem step_of_unknownFrame {s : State} {w : Word} {rest : List Input} (hp : s.port = .present (.wire4 w) :: rest)
    (hkind : w.extractLsb' 0 8 ≠ 0x01#8) (hw : w ≠ 0xD6000002#32) : step s = .refused .unknownFrame := by
  have hd : decode (.wire4 w) = .error .unknownFrame := by
    simp [decode, decodeWire4, hw, hkind]
  simp [step, takeNext, takeInput, takeEncoding, rejectInput, hp, hd]

end Sys2Proof.Machine

/-! The obligations of the step: O1 (20_memory.md R60, 70_reset_and_hazards.md R220), O2, O3 (30_encoding.md R71 to
R84). -/

namespace Sys2Proof.Proofs

open Sys2Proof.Machine Sys2Proof.Claims

/-- Settles O1: by the head of the port. -/
theorem stepRunsTheDecodedInstruction : Obligations.StepRunsTheDecodedInstruction :=
  ⟨fun _ _ _ _ => step_of_decode, fun _ => step_of_idle, fun _ _ => step_of_hardReset,
    fun _ _ _ => step_of_unknownFrame⟩

/-- Settles O2: the table word is the head of the port, with the state's own port behind it. -/
theorem fetchedTableWordRuns : Obligations.FetchedTableWordRuns :=
  fun _ _ _ _ h => step_of_decode rfl (decode_of_decodeTableWord h)

/-- Settles O3: each word is the encoding of its instruction, or is decoded field by field. -/
theorem sampleWordsDecode : Obligations.SampleWordsDecode :=
  ⟨rfl, decode_ckAbs 0xD6#8, decode_encSpd 1000#16, rfl, decode_hsRd 49#16, rfl, decode_setspeed 1000#16 0x89#8, rfl,
    decode_telemetry 500#16 100#16 150#16 6#8 0x04#8⟩

end Sys2Proof.Proofs
